-- ==== Sys2Proof/Word.lean ====
section
/-! DEFINITION. The one word of the links: a byte. Every other number of the manual is an exact count (00_scope.md 0.4.2), so it is a Nat or an Int. -/

namespace Sys2Proof

/-- One byte on the Plant Link or the Station Link. -/
abbrev Byte := BitVec 8

end Sys2Proof
end

