-- ==== Sys2Proof/Config.lean ====
section
/-! DEFINITION. The principal quantities of Table 0.4 and the time limits of the chapters, and the free values of the model. -/

namespace Sys2Proof.Config

/-- Table 0.4, R19. -/
def orderQueueSize : Nat := 16
/-- R183. -/
def noticeQueueSize : Nat := 32
/-- R180. -/
def inputBufferSize : Nat := 4
/-- R80, R91. -/
def transitPlaces : Nat := 6
/-- R15 (1): the mixer capacity, 0.1 kg. -/
def mixerCapacity : Nat := 15000
/-- R15 (2): the cement scale capacity, 0.1 kg. -/
def scaleCapacity : Nat := 4000
/-- R151 (4): the maturity ceiling, 0.01 °C·h. -/
def maturityCeiling : Nat := 4000000
/-- R189: the clock's largest value. -/
def clockMax : Nat := 4294967295
/-- R146: the largest value of gap and dry seconds. -/
def secondsMax : Nat := 4294967295
/-- R146: the largest substituted-interval count. -/
def substitutedMax : Nat := 65535
/-- R87: the largest cast ID. -/
def castIdMax : Nat := 16777215
/-- R29: the largest batch ID. -/
def batchIdMax : Nat := 65535
/-- R124: the last station address a hunt probes. -/
def lastAddress : Nat := 31
/-- R135: the substitution run is not raised beyond this. -/
def runMax : Nat := 60
/-- R178 (1): the largest body length. -/
def bodyMax : Nat := 250
/-- R178: the start byte of a frame. -/
def startByte : Byte := 0x7E#8

/-- Table 3.2. -/
def ashLimit : Nat := 300
/-- Table 3.2. -/
def scaleLimit : Nat := 180
/-- Table 3.2. -/
def meterLimit : Nat := 120
/-- R80 (2). -/
def spaceWaitLimit : Nat := 120
/-- R82. -/
def moldCallLimit : Nat := 60
/-- R92 (2). -/
def doorWaitLimit : Nat := 90
/-- R111, R116: the deadline of steps CLOSE and OPEN. -/
def doorStepLimit : Nat := 90
/-- R111, R116: the deadline of steps LOCK and UNLOCK. -/
def lockStepLimit : Nat := 30
/-- R112 (2). -/
def readyLimit : Nat := 3600
/-- R154. -/
def minute : Nat := 60

/-- FREE VALUE (log 9): what the weighing channel of a delivery reads at the n-th stop the machine makes (R40 (2)).
The measured value comes from outside the controller and no command carries it. -/
opaque channelReading : Nat → Nat

/-- FREE VALUE (log 20): the clock after a battery failure when no good retained record holds a time (R191 (1) takes
the latest of the times held and states nothing for none). -/
opaque clockWithoutRecord : Nat

end Sys2Proof.Config
end

