-- ==== Sys2Proof/Syntax.lean ====
section
/-! DEFINITION. The commands of the controller: one constructor of `Instr` per row of the opcode table, with the row's operands. Codes of named values that the owning rule refuses (a mixer name, a mixer choice, a mark status) are kept as the code the host sends (R187 (3), (7)). -/

namespace Sys2Proof

/-- The two mixers, their sequencers and their Pour Stations (0.4.3 (5)). -/
inductive Mixer where
  | a
  | b
  deriving DecidableEq, Repr

/-- A complete class record (Table 1.1). `placement` is ordered. -/
structure ClassRecord where
  cement      : Nat
  chloride0   : Nat
  chloride1   : Nat
  chloride2   : Nat
  chloride3   : Nat
  water       : Nat
  chelant     : Nat
  castMass    : Nat
  moldMatch   : Nat
  moldMask    : Nat
  mixTime     : Nat
  potLife     : Nat
  datum       : Int
  cap         : Int
  minHumidity : Nat
  target      : Nat
  minAge      : Nat
  maxAge      : Nat
  gapAllow    : Nat
  dryAllow    : Nat
  placement   : List Nat
  deriving DecidableEq, Repr

/-- The fields of an ORDER POST request (Table 10.7). `bayBytes` are the four bay bytes; those beyond `bayCount` are
ignored. `mixerChoice` is the code sent: 1 A, 2 B, 3 ANY. -/
structure OrderRequest where
  order       : Nat
  lot         : Nat
  cls         : Nat
  count       : Nat
  mixerChoice : Nat
  step        : Bool
  bayCount    : Nat
  bayBytes    : List Nat
  deriving DecidableEq, Repr

/-- The fields of a BAY SET request: the settings of Table 6.2 without the bay state (R100). -/
structure BayRequest where
  bay       : Nat
  levels    : Nat
  slots     : Nat
  fillOrder : Option (List Nat)
  period    : Nat
  cutLimit  : Nat
  autoSeal  : Bool
  settle    : Nat
  coolDown  : Nat
  deriving DecidableEq, Repr

/-- The two forms in which a request names a cast (R165, R167, R172). -/
inductive CastRef where
  | byId (id : Nat)
  | byPosition (position : Nat)
  deriving DecidableEq, Repr

/-- The equipment channels of deliveries that are judged by R42. -/
inductive DoseChannel where
  | ash
  | chelant
  | water
  deriving DecidableEq, Repr

/-- The condition a mold's tag carries (R78 (6)). -/
inductive MoldCondition where
  | ready
  | used
  | damaged
  deriving DecidableEq, Repr

/-- A mold as read from its tag (R78 (6)). -/
structure Mold where
  id        : Nat
  moldType  : Nat
  condition : MoldCondition
  deriving DecidableEq, Repr

/-- The two results of a tag read (R83). -/
inductive TagRead where
  | noRead
  | read (mold : Mold)
  deriving DecidableEq, Repr

/-- A condition report as sent (Table 7.1, Table 10.9). -/
structure Report where
  address     : Nat
  sequence    : BitVec 4
  period      : Nat
  temperature : Int
  humidity    : Nat
  doorClosed  : Bool
  latched     : Bool
  ready       : Bool
  button      : Bool
  fault       : Bool
  deriving DecidableEq, Repr

/-- The 32 request kinds of Table 10.3, with their fields. -/
inductive Request where
  | orderPost (r : OrderRequest)
  | orderWithdraw (order : Nat)
  | lotDefine (lot moisture band : Nat)
  | lotClose (lot : Nat)
  | classSet (cls : Nat) (r : ClassRecord)
  | baySet (r : BayRequest)
  | bayMark (position status : Nat)
  | baySeal (bay : Nat)
  | bayUnseal (bay : Nat)
  | hunt
  | stationAccept (bay : Nat)
  | stationUnbind (bay : Nat)
  | mixerHold (mixer : Nat)
  | mixerResume (mixer : Nat)
  | mixerAbandon (mixer : Nat)
  | mixerStep (mixer : Nat)
  | mixerClear (mixer : Nat)
  | shuttleRetry
  | castPlace (cast position : Nat)
  | castDiscard (ref : CastRef)
  | castAssess (cast : Nat)
  | castTake (ref : CastRef) (force : Bool)
  | queryStatus (start : Nat)
  | queryCast (ref : CastRef)
  | queryBay (bay : Nat) (clear : Bool)
  | queryMixer (mixer : Nat)
  | queryQueue
  | queryBatch (batch : Nat)
  | queryClass (cls : Nat)
  | queryLot (lot : Nat)
  | clockSet (value : Nat)
  | restart
  deriving DecidableEq, Repr

/-- Where a loss of the supply falls among the writes that the last command made to the Retained Store (R188). -/
inductive WriteCut where
  /-- after all of them -/
  | complete
  /-- between two writes: the first `k` were complete, and the next had not begun -/
  | after (k : Nat)
  /-- while a write was in course, the first `k` being complete -/
  | during (k : Nat)
  deriving DecidableEq, Repr

/-- One command. The request rows carry the tag the host chose (Table 10.6) and the request's fields; the event rows
carry what the event carries. -/
inductive Instr where
  | orderPost (tag : Nat) (r : OrderRequest)
  | orderWithdraw (tag order : Nat)
  | lotDefine (tag lot moisture band : Nat)
  | lotClose (tag lot : Nat)
  | classSet (tag cls : Nat) (r : ClassRecord)
  | baySet (tag : Nat) (r : BayRequest)
  | bayMark (tag position status : Nat)
  | baySeal (tag bay : Nat)
  | bayUnseal (tag bay : Nat)
  | hunt (tag : Nat)
  | stationAccept (tag bay : Nat)
  | stationUnbind (tag bay : Nat)
  | mixerHold (tag mixer : Nat)
  | mixerResume (tag mixer : Nat)
  | mixerAbandon (tag mixer : Nat)
  | mixerStep (tag mixer : Nat)
  | mixerClear (tag mixer : Nat)
  | shuttleRetry (tag : Nat)
  | castPlace (tag cast position : Nat)
  | castDiscard (tag : Nat) (ref : CastRef)
  | castAssess (tag cast : Nat)
  | castTake (tag : Nat) (ref : CastRef) (force : Bool)
  | queryStatus (tag start : Nat)
  | queryCast (tag : Nat) (ref : CastRef)
  | queryBay (tag bay : Nat) (clear : Bool)
  | queryMixer (tag mixer : Nat)
  | queryQueue (tag : Nat)
  | queryBatch (tag batch : Nat)
  | queryClass (tag cls : Nat)
  | queryLot (tag lot : Nat)
  | clockSet (tag value : Nat)
  | restart (tag : Nat)
  | unknownKindRequest (tag kind : Nat)
  | plantLinkByte (byte : Byte)
  | interByteGap
  | frameSent
  | deliveryCompletion (m : Mixer) (channel : DoseChannel) (amount : Nat)
  | cementWeighingCompletion (amount : Nat)
  | cementDischargeCompletion (m : Mixer) (amount : Nat)
  | rejectDischargeCompletion (m : Mixer)
  | deliveryTimeLimit (m : Mixer)
  | mixTimerExpiry (m : Mixer)
  | potLifeExpiry (m : Mixer)
  /-- the overload input of the mixer's drive changes to asserted, or (with `false`) to clear (log 10) -/
  | motorOverload (m : Mixer) (asserted : Bool)
  | spaceWaitExpiry (m : Mixer)
  | moldArrival (m : Mixer)
  | moldCallTimeout (m : Mixer)
  | tagReadResult (m : Mixer) (result : TagRead)
  | fillCompletion (m : Mixer) (mass : Nat)
  | tagWriteResult (m : Mixer) (written : Bool)
  | placementCompletion (confirmed : Bool)
  | doorWaitExpiry
  | conditionReport (r : Report)
  | idleAnswer (address : Nat)
  | poll
  | pollAnswerTimeout
  | lateTimerExpiry (bay : Nat)
  | identityAnswer (address serial : Nat)
  | probeSilence
  | sealStepTimeout (bay : Nat)
  | conditionDeadline (bay : Nat)
  | coolDownExpiry (bay : Nat)
  | unsealStepTimeout (bay : Nat)
  | minuteTimerExpiry
  | powerUp
  /-- `cut` places the loss among the writes of the last command; `seconds` is how long the supply stays away (log 7). -/
  | powerLoss (cut : WriteCut) (batteryFails : Bool) (seconds : Nat)
  | stationFrameDiscarded (frame : List Byte)
  deriving DecidableEq, Repr

end Sys2Proof
end

