-- ==== Sys2Proof/Machine/State.lean ====
section
/-! DEFINITION. The state of the controller as plain data: every block of Table 0.2 with the state its chapter gives it, the Retained Store, the two links, and the queue of waiting commands. -/

namespace Sys2Proof.Machine

/-! ### Named values -/

/-- Table 3.1. -/
inductive MixerState where
  | idle | charging | mixing | pouring | stepWait | held | lockout | discharging
  deriving DecidableEq, Repr

/-- The stages of a batch, and DISCHARGING as an in-progress marker may hold it (R36, R39). -/
inductive Stage where
  | ash | cement | liquids | mix | pour | discharging
  deriving DecidableEq, Repr

/-- What STEP_WAIT saves (R37 (11)). -/
inductive Saved where
  | stage (st : Stage)
  | batchEnd
  deriving DecidableEq, Repr

/-- The components of a batch (R37 (4)). -/
inductive Component where
  | ash | cement | chelant | water
  deriving DecidableEq, Repr

/-- The delivery requests of Table 3.2. -/
inductive Channel where
  | ash | weighing | discharge | chelant | water | reject
  deriving DecidableEq, Repr

/-- R37 (15). -/
inductive Drive where
  | stopped | agitate | mix
  deriving DecidableEq, Repr

/-- Table 4.1, and POWER_LOSS of a recovered mixer (R68). -/
inductive HoldCause where
  | underdose | overdose | feederTimeout | scaleTimeout | meterTimeout | motorOverload
  | tagFail | noMold | transitFull | operator | powerLoss
  deriving DecidableEq, Repr

/-- The second cause of a lockout (R67, R68). -/
inductive SecondCause where
  | potLife | motorOverload | powerLoss
  deriving DecidableEq, Repr

/-- Table 3.5. -/
inductive EndCause where
  | complete | shortBatch | potLife | abandoned | lockout
  deriving DecidableEq, Repr

/-- R78 (1). -/
inductive PourStep where
  | none | check | space | mold | read | fill | write
  deriving DecidableEq, Repr

/-- R92. -/
inductive ShuttleState where
  | idle | moving | waitingDoor | faulted
  deriving DecidableEq, Repr

/-- R94. -/
inductive ShuttleReason where
  | notConfirmed | doorTimeout
  deriving DecidableEq, Repr

/-- Table 6.1. -/
inductive BayState where
  | absent | empty | filling | sealPending | sealing | sealed | unsealing | unloading | breached
  deriving DecidableEq, Repr

/-- Table 6.1. -/
inductive SeqStep where
  | close | lock | condition | cool | unlock | doorOpen
  deriving DecidableEq, Repr

/-- Table 6.1: the door-closed flag. -/
inductive DoorFlag where
  | closed | opened | unknown
  deriving DecidableEq, Repr

/-- Table 6.1: the latch flag. -/
inductive LatchFlag where
  | engaged | released | unknown
  deriving DecidableEq, Repr

/-- Table 6.1: the ready flag. -/
inductive ReadyFlag where
  | ready | notReady | unknown
  deriving DecidableEq, Repr

/-- Table 7.3. -/
inductive AlignerState where
  | unbound | syncing | locked | blind | mismatch
  deriving DecidableEq, Repr

/-- Table 8.5. -/
inductive CastState where
  | transit | curing | releasable | overdue | held | strayed
  deriving DecidableEq, Repr

/-- R134 (2): the kind of a condition interval. -/
inductive IntervalKind where
  | reported | holdLast | datum
  deriving DecidableEq, Repr

/-- Table 10.2. -/
inductive Reason where
  | full | duplicate | noLot | noClass | wetLot | overScale | overMixer | range | inUse | busy | state | running
  | noSuch | notReleasable | clockBack | unknownKind | malformed
  deriving DecidableEq, Repr

/-- The mixer choice of an order (Table 2.1). -/
inductive MixerChoice where
  | a | b | any
  deriving DecidableEq, Repr

/-! ### Small records -/

/-- One value for each of the two mixers. -/
structure PerMixer (α : Type) where
  a : α
  b : α
  deriving DecidableEq, Repr

/-- A batch named by slot and batch ID together (2.3). -/
structure BatchRef where
  slot : Nat
  id   : Nat
  deriving DecidableEq, Repr

/-- The state of a lot with its close rank (R6 (4), (5)). -/
inductive LotState where
  | opened
  | closed (rank : Nat)
  deriving DecidableEq, Repr

/-- R6. -/
structure Lot where
  number   : Nat
  moisture : Nat
  band     : Nat
  state    : LotState
  deriving DecidableEq, Repr

/-- The results of the dose computation (R14): Wadd may be negative. -/
structure Doses where
  ash     : Nat
  cement  : Nat
  water   : Int
  chelant : Nat
  mass    : Nat
  deriving DecidableEq, Repr

/-- The dose targets of an accepted order (R18). -/
structure Targets where
  ash     : Nat
  cement  : Nat
  water   : Nat
  chelant : Nat
  deriving DecidableEq, Repr

/-- Table 2.1. -/
structure Order where
  number  : Nat
  lot     : Nat
  cls     : Nat
  count   : Nat
  choice  : MixerChoice
  bays    : Option (List Nat)
  step    : Bool
  targets : Targets
  mass    : Nat
  deriving DecidableEq, Repr

/-- The four actual amounts (R28), absent for a component not yet begun. -/
structure Actuals where
  ash     : Option Nat
  cement  : Option Nat
  chelant : Option Nat
  water   : Option Nat
  deriving DecidableEq, Repr

/-- Table 2.3. -/
structure BatchRecord where
  id            : Nat
  order         : Option Nat
  lot           : Option Nat
  cls           : Option Nat
  mixer         : Option Mixer
  targets       : Targets
  mass          : Nat
  actuals       : Actuals
  reservation   : List Nat
  poured        : Nat
  rejected      : Nat
  doseDeviation : Bool
  stepped       : Bool
  damaged       : Bool
  start         : Option Nat
  endTime       : Option Nat
  endCause      : Option EndCause
  live          : Nat
  deriving DecidableEq, Repr

/-- The hold causes of a cast, a set (R147). -/
structure CastCauses where
  dose   : Bool
  gap    : Bool
  dry    : Bool
  record : Bool
  clock  : Bool
  deriving DecidableEq, Repr

/-- The flags of a cast, a set (R148, R146). -/
structure CastFlags where
  overdue  : Bool
  overheat : Bool
  massOff  : Bool
  untagged : Bool
  blind    : Bool
  breached : Bool
  outage   : Bool
  assessed : Bool
  deriving DecidableEq, Repr

/-- Table 8.2. -/
structure CastPart where
  id          : Nat
  slot        : Nat
  batch       : Nat
  order       : Nat
  lot         : Nat
  cls         : Nat
  pourTime    : Nat
  placed      : Option Nat
  mass        : Nat
  maturity    : Nat
  gap         : Nat
  dry         : Nat
  substituted : Nat
  state       : CastState
  causes      : CastCauses
  flags       : CastFlags
  deriving DecidableEq, Repr

/-- The status of a position entry with what it holds (R143). Position number, bay, level and slot are fixed by its
place in the table. -/
inductive Entry where
  | nonexistent
  | unusable
  | free
  | reserved (slot batch : Nat)
  | occupied (c : CastPart)
  deriving DecidableEq, Repr

/-- R123. -/
structure Binding where
  address : Nat
  serial  : Nat
  deriving DecidableEq, Repr

/-- Table 6.2. -/
structure BaySettings where
  levels    : Nat
  slots     : Nat
  fillOrder : List Nat
  period    : Nat
  cutLimit  : Nat
  autoSeal  : Bool
  settle    : Nat
  coolDown  : Nat
  state     : BayState
  deriving DecidableEq, Repr

/-- R39. -/
structure Marker where
  slot  : Nat
  batch : Nat
  stage : Stage
  deriving DecidableEq, Repr

/-! ### The Retained Store -/

/-- The name of a record of the Retained Store (R188). Classes, lots, slots, positions and bays count from 1. -/
inductive RecordId where
  | cls (n : Nat)
  | lot (n : Nat)
  | batch (slot : Nat)
  | entry (position : Nat)
  | binding (bay : Nat)
  | settings (bay : Nat)
  | castCounter
  | batchCounter
  | marker (m : Mixer)
  | lastStamp
  deriving DecidableEq, Repr

/-- A record of the Retained Store with contents: what one write writes (R188). -/
inductive Retained where
  | cls (n : Nat) (r : Option ClassRecord)
  | lot (n : Nat) (r : Option Lot)
  | batch (slot : Nat) (r : Option BatchRecord)
  | entry (position : Nat) (e : Entry)
  | binding (bay : Nat) (r : Option Binding)
  | settings (bay : Nat) (r : BaySettings)
  | castCounter (n : Nat)
  | batchCounter (n : Nat)
  | marker (m : Mixer) (r : Option Marker)
  | lastStamp (n : Nat)
  deriving DecidableEq, Repr

/-- What one write replaced: the record's contents before it, and whether its check word agreed (log 7). -/
structure Undo where
  before : Retained
  good   : Bool
  deriving DecidableEq, Repr

/-- The Retained Store (R188). While the supply is on every block's retained record and its stored copy are the same,
since each change is written when it is made; the record is held once, here. `damaged` names the records whose check
word disagrees (log 6). -/
structure Store where
  classes      : Vector (Option ClassRecord) 6
  lots         : Vector (Option Lot) 8
  batches      : Vector (Option BatchRecord) 32
  entries      : Vector Entry 288
  bindings     : Vector (Option Binding) 12
  settings     : Vector BaySettings 12
  castCounter  : Nat
  batchCounter : Nat
  markers      : PerMixer (Option Marker)
  lastStamp    : Nat
  damaged      : List RecordId
  deriving DecidableEq, Repr

/-! ### The mixers and their Pour Stations -/

/-- A delivery in progress (R37 (8), R40). The reject discharge has no time limit. -/
structure Delivery where
  channel : Channel
  amount  : Nat
  limit   : Option Nat
  deriving DecidableEq, Repr

/-- R37 (9). -/
inductive PotLife where
  | notStarted
  | running (expiry : Nat)
  | stopped
  deriving DecidableEq, Repr

/-- R37 (12). -/
structure PendingHold where
  cause     : HoldCause
  component : Option Component
  deriving DecidableEq, Repr

/-- Table 4.2. -/
structure HoldRecord where
  cause     : HoldCause
  component : Option Component
  stage     : Stage
  dosed     : Option Nat
  poured    : Nat
  time      : Nat
  deriving DecidableEq, Repr

/-- R67 (1). -/
structure LockoutRecord where
  second : SecondCause
  time   : Nat
  deriving DecidableEq, Repr

/-- R37, with the input of R53 and what R54 and R59 need to remember (log 10, 11, 12). -/
structure Sequencer where
  state          : MixerState
  stage          : Option Stage
  batch          : Option BatchRef
  component      : Option Component
  dosed          : Nat
  topUp          : Bool
  cementInDrum   : Nat
  delivery       : Option Delivery
  potLife        : PotLife
  mixTimer       : Option Nat
  saved          : Option Saved
  pendingHold    : Option PendingHold
  pendingExpiry  : Bool
  hold           : Option HoldRecord
  lockout        : Option LockoutRecord
  blocked        : Bool
  drive          : Drive
  overloadInput  : Bool
  fillsTotal     : Nat
  dischargeCause : Option EndCause
  deriving DecidableEq, Repr

/-- R78. -/
structure PourStation where
  step         : PourStep
  castIndex    : Option Nat
  claim        : Bool
  spaceWait    : Option Nat
  moldCall     : Option Nat
  mold         : Option Mold
  readAttempts : Nat
  unreadable   : Nat
  fill         : Option Nat
  tagWrite     : Option Nat
  deriving DecidableEq, Repr

/-- R44; `onScale` is the cement weighed on the scale for the holder (R47). -/
structure Arbiter where
  holder  : Option Mixer
  waiting : List Mixer
  onScale : Nat
  deriving DecidableEq, Repr

/-- R91. -/
structure TransitEntry where
  cast     : Nat
  position : Nat
  station  : Mixer
  written  : Bool
  deriving DecidableEq, Repr

/-- R92. -/
structure Shuttle where
  state    : ShuttleState
  doorWait : Option Nat
  deriving DecidableEq, Repr

/-! ### Bays, aligners, Station Link -/

/-- Table 6.1, less the settings and the bay state, which the bay settings record holds (R99). -/
structure Bay where
  step         : Option SeqStep
  deadline     : Option Nat
  readyWanted  : Bool
  door         : DoorFlag
  latch        : LatchFlag
  ready        : ReadyFlag
  conditioning : Bool
  deriving DecidableEq, Repr

/-- R129 (8): each wraps at 65,535. -/
structure Counters where
  accepted    : BitVec 16
  lost        : BitVec 16
  misinserted : BitVec 16
  late        : BitVec 16
  substituted : BitVec 16
  deriving DecidableEq, Repr

/-- R129. -/
structure Aligner where
  state       : AlignerState
  expected    : Option (BitVec 4)
  candidate   : Option (BitVec 4)
  run         : Nat
  lastGood    : Option (Int × Nat)
  lateTimer   : Option Nat
  misinserted : Bool
  counters    : Counters
  offered     : Option Nat
  deriving DecidableEq, Repr

/-- R134. -/
structure Interval where
  bay         : Nat
  kind        : IntervalKind
  readings    : Option (Int × Nat)
  length      : Nat
  arrival     : Nat
  deriving DecidableEq, Repr

/-- R122. -/
inductive Action where
  | doorOpen | doorClose | lock | unlock | conditionOn | conditionOff
  | setPeriod (seconds : Nat)
  deriving DecidableEq, Repr

/-- A record the controller sends on the Station Link (Table 10.12). -/
inductive StationRecord where
  | poll (address : Nat)
  | probe (address : Nat)
  | actuation (address : Nat) (action : Action)
  deriving DecidableEq, Repr

/-- The exchange on the line (R120). -/
inductive Exchange where
  | poll (address : Nat)
  | probe (address : Nat)
  deriving DecidableEq, Repr

/-- A bay with a station's address and one serial: an item of HUNT DONE (R125 (1)). -/
structure HuntBinding where
  bay     : Nat
  address : Nat
  serial  : Nat
  deriving DecidableEq, Repr

/-- R125 (2). -/
structure HuntMismatch where
  bay     : Nat
  address : Nat
  bound   : Nat
  serial  : Nat
  deriving DecidableEq, Repr

/-- R125 (3). -/
structure HuntSilent where
  bay     : Nat
  address : Nat
  deriving DecidableEq, Repr

/-- R125 (4). -/
structure HuntLeftover where
  address : Nat
  serial  : Nat
  deriving DecidableEq, Repr

/-- A hunt in course: the address whose probe is due or on the line, and the lists of R125. -/
structure Hunt where
  address    : Nat
  bound      : List HuntBinding
  mismatches : List HuntMismatch
  silent     : List HuntSilent
  leftovers  : List HuntLeftover
  deriving DecidableEq, Repr

/-- The Station Link (R120, R124). -/
structure StationLink where
  exchange          : Option Exchange
  waitingActuations : List StationRecord
  pollDue           : Bool
  round             : List Nat
  hunt              : Option Hunt
  deriving DecidableEq, Repr

/-! ### Notices, replies, Plant Link -/

/-- The counts of damaged records of each kind of Table 11.1 (R192). -/
structure DamageCounts where
  entries       : Nat
  batches       : Nat
  classes       : Nat
  lots          : Nat
  bindings      : Nat
  settings      : Nat
  castCounter   : Nat
  batchCounter  : Nat
  markers       : Nat
  lastStamp     : Nat
  deriving DecidableEq, Repr

/-- What POWER UP carries (R192). -/
structure PowerUpReport where
  outage    : Nat
  clockLost : Bool
  damaged   : DamageCounts
  locked    : List Mixer
  breached  : Nat
  strayed   : Nat
  deriving DecidableEq, Repr

/-- The notices of Table 10.4 with the fields their rules list. -/
inductive Notice where
  | orderStarted (order batch slot : Nat) (m : Mixer) (positions : List Nat)
  | orderEnded (order : Option Nat) (batch : Nat) (cause : EndCause) (poured rejected : Nat)
  | mixerHeld (m : Mixer) (batch : Nat) (order : Option Nat) (h : HoldRecord)
  | mixerLockout (m : Mixer) (batch : Nat) (order : Option Nat) (second : SecondCause) (time : Nat)
      (cause : HoldCause) (stage : Stage)
  | stepWait (m : Mixer) (batch : Nat) (completed : Stage) (saved : Saved)
  | shuttleFault (cast position bay : Nat) (reason : ShuttleReason)
  | castReleasable (cast position maturity age : Nat)
  | castOverdue (cast position maturity target age : Nat)
  | castHeld (cast position : Nat) (causes : CastCauses)
  | baySealed (bay time : Nat)
  | sealFailed (bay : Nat) (step : SeqStep) (door : DoorFlag) (latch : LatchFlag)
  | conditioningSlow (bay time : Nat)
  | bayBreached (bay : Nat) (left : BayState) (step : Option SeqStep) (time flagged : Nat)
  | unsealFailed (bay : Nat) (step : SeqStep) (door : DoorFlag) (latch : LatchFlag) (readyFlag : ReadyFlag)
  | bayUnloading (bay casts : Nat)
  | bayEmpty (bay : Nat) (left : BayState)
  | unloadRequest (bay time : Nat)
  | button (bay : Nat) (state : BayState) (step : Option SeqStep)
  | stationBlind (bay address run time : Nat)
  | stationRestored (bay : Nat) (sequence : BitVec 4) (time : Nat)
  | huntDone (bound : List HuntBinding) (mismatches : List HuntMismatch) (silent : List HuntSilent)
      (leftovers : List HuntLeftover)
  | powerUp (r : PowerUpReport)
  deriving DecidableEq, Repr

/-- Table 9.3: RELEASE for CAST TAKE, DISCARD for CAST DISCARD. -/
inductive CertificateKind where
  | release | discard
  deriving DecidableEq, Repr

/-- Table 9.3. `forced` is the ninth flag. -/
structure Certificate where
  kind        : CertificateKind
  cast        : Nat
  order       : Nat
  batch       : Nat
  lot         : Nat
  cls         : Nat
  position    : Nat
  state       : CastState
  pourTime    : Nat
  placed      : Option Nat
  removed     : Nat
  mass        : Nat
  maturity    : Nat
  age         : Nat
  gap         : Nat
  dry         : Nat
  substituted : Nat
  flags       : CastFlags
  forced      : Bool
  causes      : CastCauses
  deriving DecidableEq, Repr

/-- One order of QUERY QUEUE with its readiness findings (R23). -/
structure QueueLine where
  place     : Nat
  order     : Order
  mixer     : Option Mixer
  slotFree  : Bool
  positions : Nat
  deriving DecidableEq, Repr

/-- One line of QUERY BATCH with number 0 (R34 (2)). -/
structure BatchLine where
  slot     : Nat
  id       : Nat
  order    : Option Nat
  mixer    : Option Mixer
  ended    : Bool
  endCause : Option EndCause
  poured   : Nat
  live     : Nat
  damaged  : Bool
  deriving DecidableEq, Repr

/-- R60 (7). -/
inductive ScaleStanding where
  | holder | first | second | neither
  deriving DecidableEq, Repr

/-- QUERY MIXER (R60): the sequencer as it stands, `now` on the oscillator, and what other blocks hold for it. -/
structure MixerInfo where
  sequencer : Sequencer
  now       : Nat
  record    : Option BatchRecord
  contents  : Nat
  standing  : ScaleStanding
  castIndex : Option Nat
  marker    : Option Marker
  deriving DecidableEq, Repr

/-- QUERY BAY (R140, R98). -/
structure BayInfo where
  bay         : Nat
  settings    : BaySettings
  controller  : Bay
  aligner     : Aligner
  binding     : Option Binding
  now         : Nat
  free        : Nat
  unusable    : Nat
  nonexistent : Nat
  reserved    : Nat
  casts       : List Nat
  deriving DecidableEq, Repr

/-- R165 (b) to (d). -/
structure ClassFigures where
  target      : Nat
  lacking     : Nat
  minAgeLeft  : Nat
  maxAgeLeft  : Nat
  gapAllow    : Nat
  dryAllow    : Nat
  deriving DecidableEq, Repr

/-- QUERY CAST (R165). -/
structure CastInfo where
  position : Nat
  entry    : Entry
  age      : Nat
  figures  : Option ClassFigures
  bayState : BayState
  aligner  : AlignerState
  deriving DecidableEq, Repr

/-- QUERY STATUS (R185). -/
structure StatusInfo where
  overrun    : Bool
  notices    : Nat
  clock      : Nat
  mixerA     : MixerState
  batchA     : Option Nat
  mixerB     : MixerState
  batchB     : Option Nat
  shuttle    : ShuttleState
  transit    : List TransitEntry
  orders     : Nat
  batches    : Nat
  hunting    : Bool
  bays       : List (BayState × AlignerState)
  casts      : List Nat
  strayed    : List (Nat × Nat)
  more       : Bool
  deriving DecidableEq, Repr

/-- What a reply carries after result and reason. -/
inductive Body where
  | empty
  | targets (d : Doses)
  | order (o : Order)
  | lot (l : Lot)
  | lotUses (l : Lot) (uses : Nat)
  | lots (items : List (Lot × Nat))
  | classInfo (r : Option ClassRecord) (queued running casts : Nat)
  | queue (items : List QueueLine)
  | batch (slot : Nat) (r : BatchRecord) (reserved : Nat)
  | batches (items : List BatchLine)
  | mixer (i : MixerInfo)
  | bay (i : BayInfo)
  | cast (i : CastInfo)
  | status (i : StatusInfo)
  | certificate (c : Certificate)
  | assessed (cast : Nat) (causes : CastCauses) (state : CastState)
  | confirmed (cast position : Nat) (state : CastState)
  | moved (cast old new : Nat) (state : CastState)
  deriving DecidableEq, Repr

/-- The result of a reply with its reason (R182). -/
inductive Reply where
  | done (body : Body)
  | taken
  | refused (reason : Reason) (body : Body)
  deriving DecidableEq, Repr

/-- One frame the controller sends (R179). -/
inductive Frame where
  | reply (kind tag : Nat) (r : Reply)
  | notice (n : Notice)
  deriving DecidableEq, Repr

/-- A frame being sent, with its bytes on the line. -/
structure Sending where
  frame : Frame
  bytes : List Byte
  deriving DecidableEq, Repr

/-- What a received frame's kind and body spell (R181 (1), (2)). -/
inductive Content where
  | request (r : Request)
  | unknownKind
  | malformed
  deriving DecidableEq, Repr

/-- A received request (R178, R180). -/
structure Received where
  kind    : Nat
  tag     : Nat
  content : Content
  deriving DecidableEq, Repr

/-- R178. `received` are the bytes of the frame after its start byte, in order of arrival. -/
inductive Receiver where
  | beforeStart
  | hunting
  | receiving (received : List Byte)
  deriving DecidableEq, Repr

/-- The Plant Link (chapter 10). `held` are the notices that recovery holds until POWER UP has been queued (R192). -/
structure PlantLink where
  receiver : Receiver
  buffer   : List Received
  inHand   : Option Received
  reply    : Option Frame
  sending  : Option Sending
  notices  : List Notice
  overrun  : Bool
  held     : Option (List Notice)
  deriving DecidableEq, Repr

/-! ### What leaves the controller -/

/-- What a command makes the controller send: requests to the equipment (R40, R82 to R92), records on the Station Link
(R120) and frames on the Plant Link (R179). -/
inductive Output where
  | drive (m : Mixer) (d : Drive)
  | deliver (m : Mixer) (channel : Channel) (amount : Nat)
  | stopDelivery (m : Mixer) (channel : Channel)
  | scaleToReturn
  | moldCall (m : Mixer)
  | moldCallWithdrawn (m : Mixer)
  | moldPassedOn (m : Mixer)
  | tagRead (m : Mixer)
  | fill (m : Mixer) (target : Nat)
  | tagWrite (m : Mixer) (cast : Nat)
  | place (position : Nat)
  | station (r : StationRecord) (bytes : List Byte)
  | frame (f : Frame)
  deriving DecidableEq, Repr

/-! ### The state -/

/-- The controller. -/
structure State where
  powered        : Bool
  oscillator     : Nat
  clock          : Nat
  batteryFail    : Bool
  minuteNext     : Nat
  store          : Store
  journal        : List Undo
  batteryCleared : Option Nat
  orders         : List Order
  mixers         : PerMixer Sequencer
  stations       : PerMixer PourStation
  arbiter        : Arbiter
  transit        : List TransitEntry
  spaceList      : List Mixer
  shuttle        : Shuttle
  bays           : Vector Bay 12
  aligners       : Vector Aligner 12
  stationLink    : StationLink
  plantLink      : PlantLink
  outputs        : List Output
  readings       : Nat
  pending        : List Instr
  deriving DecidableEq, Repr

/-- No behaviour of the manual stops the controller, so no step faults: the type has no constructor. -/
inductive Fault where
  deriving DecidableEq, Repr

/-- Why a step may be refused. -/
inductive Refusal where
  /-- Raised by an arm of exec whose command has no meaning yet; safe: the model claims nothing of it. No arm uses it. -/
  | notModelled (mnemonic : String)
  deriving DecidableEq, Repr

/-! ### Reset -/

/-- The 24 position numbers of a bay (R143 (2)). -/
def bayPositions (b : Nat) : List Nat := List.range' ((b - 1) * 24 + 1) 24

/-- Table 6.2: the default settings of a bay, in a given bay state. -/
def BaySettings.default (b : Nat) (st : BayState) : BaySettings :=
  { levels := 4, slots := 6, fillOrder := bayPositions b, period := 300, cutLimit := 12, autoSeal := false, settle := 0,
    coolDown := 120, state := st }

/-- R38: a sequencer that starts IDLE after power-up. -/
def Sequencer.idle : Sequencer :=
  { state := .idle, stage := none, batch := none, component := none, dosed := 0, topUp := false, cementInDrum := 0,
    delivery := none, potLife := .notStarted, mixTimer := none, saved := none, pendingHold := none, pendingExpiry := false,
    hold := none, lockout := none, blocked := false, drive := .stopped, overloadInput := false, fillsTotal := 0,
    dischargeCause := none }

/-- R78: a Pour Station after power-up. -/
def PourStation.idle : PourStation :=
  { step := .none, castIndex := none, claim := false, spaceWait := none, moldCall := none, mold := none, readAttempts := 0,
    unreadable := 0, fill := none, tagWrite := none }

/-- R44: no holder, no list. -/
def Arbiter.idle : Arbiter := { holder := none, waiting := [], onScale := 0 }

/-- R92. -/
def Shuttle.idle : Shuttle := { state := .idle, doorWait := none }

/-- Table 6.1: a Bay Controller after power-up. -/
def Bay.initial : Bay :=
  { step := none, deadline := none, readyWanted := false, door := .unknown, latch := .unknown, ready := .unknown,
    conditioning := false }

/-- R139. -/
def Counters.zero : Counters := { accepted := 0, lost := 0, misinserted := 0, late := 0, substituted := 0 }

/-- R129: the values of an aligner whose bay is not bound. -/
def Aligner.unbound : Aligner :=
  { state := .unbound, expected := none, candidate := none, run := 0, lastGood := none, lateTimer := none,
    misinserted := false, counters := Counters.zero, offered := none }

/-- A hunt at its first address (R124). -/
def Hunt.first : Hunt := { address := 1, bound := [], mismatches := [], silent := [], leftovers := [] }

/-- R145, R3, R10, R35, R190: the store after the first power-up of a module whose store has never been written. -/
def Store.first : Store :=
  { classes := Vector.replicate 6 none
    lots := Vector.replicate 8 none
    batches := Vector.replicate 32 none
    entries := Vector.replicate 288 .unusable
    bindings := Vector.replicate 12 none
    settings := ⟨#[BaySettings.default 1 .absent, BaySettings.default 2 .absent, BaySettings.default 3 .absent,
      BaySettings.default 4 .absent, BaySettings.default 5 .absent, BaySettings.default 6 .absent,
      BaySettings.default 7 .absent, BaySettings.default 8 .absent, BaySettings.default 9 .absent,
      BaySettings.default 10 .absent, BaySettings.default 11 .absent, BaySettings.default 12 .absent], rfl⟩
    castCounter := 0
    batchCounter := 0
    markers := { a := none, b := none }
    lastStamp := 0
    damaged := [] }

/-- What POWER UP carries at that first power-up: every record of the store was found damaged. -/
def PowerUpReport.first : PowerUpReport :=
  { outage := 0, clockLost := true
    damaged := { entries := 288, batches := 32, classes := 6, lots := 8, bindings := 12, settings := 12, castCounter := 1,
                 batchCounter := 1, markers := 2, lastStamp := 1 }
    locked := [], breached := 0, strayed := 0 }

/-- The frame of that POWER UP notice (Table 10.6, R184, R187), as R192 leaves it being sent. -/
def Sending.first : Sending :=
  { frame := .notice (.powerUp PowerUpReport.first)
    bytes := [0x7E#8, 0x00#8, 0x14#8, 0x96#8, 0x00#8, 0x00#8, 0x00#8, 0x00#8, 0x00#8, 0x01#8, 0x01#8, 0x20#8, 0x20#8, 0x06#8,
      0x08#8, 0x0C#8, 0x0C#8, 0x01#8, 0x01#8, 0x02#8, 0x01#8, 0x00#8, 0x00#8, 0x00#8, 0x00#8, 0xB3#8, 0xD1#8] }

/-- The machine right after reset: the first power-up of a module whose store has never been written (log 5). -/
def State.reset : State :=
  { powered := true, oscillator := 0, clock := 0, batteryFail := false, minuteNext := 60
    store := Store.first
    journal := []
    batteryCleared := none
    orders := []
    mixers := { a := Sequencer.idle, b := Sequencer.idle }
    stations := { a := PourStation.idle, b := PourStation.idle }
    arbiter := Arbiter.idle
    transit := []
    spaceList := []
    shuttle := Shuttle.idle
    bays := Vector.replicate 12 Bay.initial
    aligners := Vector.replicate 12 Aligner.unbound
    stationLink := { exchange := some (.probe 1), waitingActuations := [], pollDue := false, round := [],
                     hunt := some Hunt.first }
    plantLink := { receiver := .hunting, buffer := [], inHand := none, reply := none, sending := some Sending.first,
                   notices := [], overrun := false, held := none }
    outputs := []
    readings := 0
    pending := [] }

end Sys2Proof.Machine
end

