-- ==== Sys2Proof/Machine/Flags.lean ====
section
/-! DEFINITION. The computations of the manual on numbers alone: the dose computation (R14), the tolerance bands (R41), the mold pattern (R84), the fill tolerance (R86), maturity credit, gap and dry time (R151 to R153) and the evaluation of a cast (R157, R158). -/

namespace Sys2Proof.Machine

/-- A value said to be capped or to saturate (0.4.2). -/
def capped (limit v : Nat) : Nat := min limit v

/-! ### Dose computation -/

/-- Table 1.1: the chloride increment of a band. -/
def chlorideIncrement (c : ClassRecord) (band : Nat) : Nat :=
  match band with
  | 0 => c.chloride0
  | 1 => c.chloride1
  | 2 => c.chloride2
  | _ => c.chloride3

/-- A quotient rounded up. -/
def divUp (n d : Nat) : Nat := (n + (d - 1)) / d

/-- R14, Table 1.3: the dose targets of `n` casts of class `c` from ash of moisture `u` and chloride band `band`. -/
def computeDoses (n : Nat) (c : ClassRecord) (u band : Nat) : Doses :=
  let c' := capped 900 (c.cement + chlorideIncrement c band)
  let b := n * c.castMass
  let d := b * 1000000 / ((1000 + c') * (1000 + c.water) + 1000 * c.chelant)
  let cem := d * c' / 1000
  let w := (d + cem) * c.water / 1000
  let h := d * c.chelant / 1000
  let a := divUp (d * 1000) (1000 - u)
  { ash := a, cement := cem, water := (w : Int) - ((a : Int) - (d : Int)), chelant := h, mass := b }

/-- R15: the first dose check that fails. -/
def doseRefusal (d : Doses) : Option Reason :=
  if d.mass > Config.mixerCapacity then some .overMixer
  else if d.cement > Config.scaleCapacity then some .overScale
  else if d.water < 0 then some .wetLot
  else none

/-- The targets an accepted order stores (R13, R18); Wadd is not negative there (R15 (3)). -/
def Doses.targets (d : Doses) : Targets :=
  { ash := d.ash, cement := d.cement, water := d.water.toNat, chelant := d.chelant }

/-! ### Tolerance bands -/

/-- Table 3.3: lower and upper tolerance in per mille. -/
def tolerance : Component → Nat × Nat
  | .ash => (10, 10)
  | .cement => (10, 30)
  | .chelant => (50, 50)
  | .water => (15, 15)

/-- R41: the lower limit of the band. -/
def lowerLimit (c : Component) (target : Nat) : Nat := target - target * (tolerance c).1 / 1000

/-- R41: the upper limit of the band. -/
def upperLimit (c : Component) (target : Nat) : Nat := target + target * (tolerance c).2 / 1000

/-- What a component's total is judged to be (R42, R47). -/
inductive Verdict where
  | below | within | above
  deriving DecidableEq, Repr

/-- R41, R42: a total equal to either limit lies within the band. -/
def judge (c : Component) (target total : Nat) : Verdict :=
  if total < lowerLimit c target then .below
  else if total > upperLimit c target then .above
  else .within

/-- R41 and R18: the target of a component. -/
def Targets.of (t : Targets) : Component → Nat
  | .ash => t.ash
  | .cement => t.cement
  | .chelant => t.chelant
  | .water => t.water

/-- R28: the actual of a component set. -/
def Actuals.put (a : Actuals) (c : Component) (v : Nat) : Actuals :=
  match c with
  | .ash => { a with ash := some v }
  | .cement => { a with cement := some v }
  | .chelant => { a with chelant := some v }
  | .water => { a with water := some v }

/-- R54: the amounts charged, 0 where absent. -/
def Actuals.total (a : Actuals) : Nat :=
  a.ash.getD 0 + a.cement.getD 0 + a.chelant.getD 0 + a.water.getD 0

/-! ### Molds and fills -/

/-- R84: the type equals the match value in every bit position where the mask has a one. -/
def moldAgrees (c : ClassRecord) (moldType : Nat) : Bool :=
  decide (Nat.land moldType c.moldMask = Nat.land c.moldMatch c.moldMask)

/-- R79 (1), R55: the contents below which a cast is not begun. -/
def shortLimit (castMass : Nat) : Nat := castMass / 2

/-- R85: the fill target of cast `i` of `n`. -/
def fillTarget (castMass contents i n : Nat) : Nat :=
  if i < n then castMass else capped (castMass * 11 / 10) contents

/-- R86: the mass differs from the target by more than the tolerance. -/
def massOff (target mass : Nat) : Bool :=
  decide (target * 20 / 1000 < (if mass ≤ target then target - mass else mass - target))

/-! ### Credit -/

/-- R151 (1) to (3): the credit of an interval of temperature `t` and length `dt`. -/
def creditOf (datum cap t : Int) (dt : Nat) : Nat :=
  (min t cap - datum).toNat * dt / 360

/-- Seconds added to gap or dry time, which saturate (R146). -/
def addSeconds (total more : Nat) : Nat := capped Config.secondsMax (total + more)

/-- R150: an interval that stands in for a lost report raises the count, which saturates (R146). -/
def countSubstitute (kind : IntervalKind) (n : Nat) : Nat :=
  match kind with
  | .reported => n
  | .holdLast => capped Config.substitutedMax (n + 1)
  | .datum => capped Config.substitutedMax (n + 1)

/-- R150 to R153: what one condition interval does to one cast, given its class. -/
def creditCast (cls : Option ClassRecord) (i : Interval) (c : CastPart) : CastPart :=
  let c := { c with substituted := countSubstitute i.kind c.substituted }
  match cls, i.readings with
  | none, _ => { c with gap := addSeconds c.gap i.length }
  | some _, none => { c with gap := addSeconds c.gap i.length }
  | some k, some (t, h) =>
    { c with
      maturity := capped Config.maturityCeiling (c.maturity + creditOf k.datum k.cap t i.length)
      dry := if h < 10 * k.minHumidity then addSeconds c.dry i.length else c.dry
      flags := { c.flags with overheat := c.flags.overheat || decide (k.cap < t) } }

/-! ### Evaluation -/

/-- The empty set of hold causes. -/
def CastCauses.empty : CastCauses := { dose := false, gap := false, dry := false, record := false, clock := false }

/-- The empty set of flags. -/
def CastFlags.empty : CastFlags :=
  { overdue := false, overheat := false, massOff := false, untagged := false, blind := false, breached := false,
    outage := false, assessed := false }

/-- R147: some cause keeps the cast from release. -/
def CastCauses.any (h : CastCauses) : Bool := h.dose || h.gap || h.dry || h.record || h.clock

/-- R149: the states that are credited and whose casts are evaluated. -/
def CastState.credited : CastState → Bool
  | .curing => true
  | .releasable => true
  | .overdue => true
  | .held => true
  | .transit => false
  | .strayed => false

/-- R157 (1): the hold causes an evaluation adds. -/
def addCauses (cls : Option ClassRecord) (c : CastPart) : CastCauses :=
  match cls with
  | none => { c.causes with record := true }
  | some k =>
    { c.causes with
      gap := c.causes.gap || (!c.flags.assessed && decide (k.gapAllow * 60 < c.gap))
      dry := c.causes.dry || (!c.flags.assessed && decide (k.dryAllow * 60 < c.dry)) }

/-- R157: the evaluation of a cast in CURING, OVERDUE or HELD. -/
def evaluatePlaced (cls : Option ClassRecord) (clock : Nat) (c : CastPart) : CastPart :=
  let c := { c with causes := addCauses cls c }
  match cls with
  | none => { c with state := .held }
  | some k =>
    if c.causes.any then { c with state := .held }
    else if k.target ≤ c.maturity ∧ k.minAge * 3600 ≤ clock - c.pourTime then { c with state := .releasable }
    else if k.maxAge * 3600 < clock - c.pourTime then
      { c with state := .overdue, flags := { c.flags with overdue := true } }
    else { c with state := .curing }

/-- R158: the evaluation of a RELEASABLE cast. -/
def evaluateReleasable (cls : Option ClassRecord) (c : CastPart) : CastPart :=
  match cls with
  | none => { c with causes := { c.causes with record := true }, state := .held }
  | some _ => if c.causes.any then { c with state := .held } else c

/-- R156: the evaluation by the cast's state; a TRANSIT or STRAYED cast is not evaluated. -/
def evaluateCast (cls : Option ClassRecord) (clock : Nat) (c : CastPart) : CastPart :=
  match c.state with
  | .releasable => evaluateReleasable cls c
  | .curing => evaluatePlaced cls clock c
  | .overdue => evaluatePlaced cls clock c
  | .held => evaluatePlaced cls clock c
  | .transit => c
  | .strayed => c

/-- The age of a cast in seconds (R146). -/
def ageOf (clock : Nat) (c : CastPart) : Nat := clock - c.pourTime

/-- R159: the notice of an evaluation that changed the state. -/
def evaluationNotice (cls : Option ClassRecord) (clock position : Nat) (before after : CastPart) : Option Notice :=
  if before.state = after.state then none
  else
    match after.state with
    | .releasable => some (.castReleasable after.id position after.maturity (ageOf clock after / 60))
    | .overdue =>
      some (.castOverdue after.id position after.maturity ((cls.map (·.target)).getD 0) (ageOf clock after / 60))
    | .held => some (.castHeld after.id position after.causes)
    | .curing => none
    | .transit => none
    | .strayed => none

/-- R152, R155: gap seconds added to a cast. -/
def CastPart.addGap (c : CastPart) (n : Nat) : CastPart := { c with gap := addSeconds c.gap n }

/-- R121: a value clamped to a range. -/
def clampInt (lo hi v : Int) : Int := max lo (min hi v)

/-- R121: a value clamped to a range. -/
def clampNat (lo hi v : Nat) : Nat := max lo (min hi v)

/-- R135: the kind and readings of a substitute at a place in the run. -/
def substituteOf (run : Nat) (lastGood : Option (Int × Nat)) : IntervalKind × Option (Int × Nat) :=
  match lastGood with
  | none => (.datum, none)
  | some r => if run ≤ 2 then (.holdLast, some r) else (.datum, none)

end Sys2Proof.Machine
end

