-- ==== Sys2Proof/Machine/Operands.lean ====
section
/-! DEFINITION. The operand forms of the host's requests: the codes of named values (R187 (3)), the check word (R178), and the bodies of the 32 request kinds read from bytes (R181, R187, Tables 10.3 and 10.7, log 15) and written to bytes. -/

namespace Sys2Proof.Machine

/-! ### Numbers in bytes -/

/-- R187 (1): `n` bytes, most significant first. -/
def be : Nat → Nat → List Byte
  | 0, _ => []
  | n + 1, v => BitVec.ofNat 8 (v / 256 ^ n) :: be n v

/-- R187 (1): the number that bytes spell, most significant first. -/
def num (l : List Byte) : Nat := l.foldl (fun acc x => acc * 256 + x.toNat) 0

/-- R187 (2): `n` bytes in two's complement. -/
def beInt (n : Nat) (v : Int) : List Byte := be n (v % ((256 ^ n : Nat) : Int)).toNat

/-- R187 (2): the number that bytes spell in two's complement. -/
def int (l : List Byte) : Int :=
  let v := num l
  if 2 * v < 256 ^ l.length then (v : Int) else (v : Int) - ((256 ^ l.length : Nat) : Int)

/-- The field of `n` bytes at an offset of a body. -/
def field (body : List Byte) (off n : Nat) : Nat := num ((body.drop off).take n)

/-- The signed field of `n` bytes at an offset of a body. -/
def fieldInt (body : List Byte) (off n : Nat) : Int := int ((body.drop off).take n)

/-- R187 (6): a yes-or-no field. -/
def yesNo (body : List Byte) (off : Nat) : Option Bool :=
  match field body off 1 with
  | 0 => some false
  | 1 => some true
  | _ => none

/-- A yes-or-no byte. -/
def boolByte (v : Bool) : List Byte := be 1 (if v then 1 else 0)

/-- `count` fields of `n` bytes from an offset. -/
def items (body : List Byte) (off n : Nat) : Nat → List Nat
  | 0 => []
  | count + 1 => field body off n :: items body (off + n) n count

/-- The items of a list field, without its count byte. -/
def itemBytes (n : Nat) (l : List Nat) : List Byte := l.flatMap (be n)

/-! ### Check word -/

/-- One bit of the CRC-16 of R178: generator x^16 + x^12 + x^5 + 1, most significant bit first. -/
def crcShift (c : BitVec 16) : BitVec 16 :=
  if c.msb then (c <<< 1) ^^^ 0x1021#16 else c <<< 1

/-- One byte of the CRC-16 of R178. -/
def crcByte (c : BitVec 16) (x : Byte) : BitVec 16 :=
  Nat.repeat crcShift 8 (c ^^^ (x.zeroExtend 16 <<< 8))

/-- R178: the check word of bytes, preset to all ones, no final inversion. -/
def crc16 (l : List Byte) : BitVec 16 := l.foldl crcByte 0xFFFF#16

/-- The check word as sent, most significant byte first. -/
def crcBytes (l : List Byte) : List Byte := be 2 (crc16 l).toNat

/-! ### Codes of named values -/

/-- R187 (3): A = 1, B = 2. A request with another code is refused with RANGE. -/
def mixerOfCode : Nat → Option Mixer
  | 1 => some .a
  | 2 => some .b
  | _ => none

/-- Table 10.7: 1 A, 2 B, 3 ANY. -/
def choiceOfCode : Nat → Option MixerChoice
  | 1 => some .a
  | 2 => some .b
  | 3 => some .any
  | _ => none

/-- R101, R187 (3): the wanted status by its place in the list of R143 (3), UNUSABLE = 2 and FREE = 3 (log 31). -/
def markOfCode : Nat → Option Entry
  | 2 => some .unusable
  | 3 => some .free
  | _ => none

/-- The kind code of a request (Table 10.3). -/
def requestCode : Request → Nat
  | .orderPost _ => 1
  | .orderWithdraw _ => 2
  | .lotDefine _ _ _ => 3
  | .lotClose _ => 4
  | .classSet _ _ => 5
  | .baySet _ => 6
  | .bayMark _ _ => 7
  | .baySeal _ => 8
  | .bayUnseal _ => 9
  | .hunt => 10
  | .stationAccept _ => 11
  | .stationUnbind _ => 12
  | .mixerHold _ => 13
  | .mixerResume _ => 14
  | .mixerAbandon _ => 15
  | .mixerStep _ => 16
  | .mixerClear _ => 17
  | .shuttleRetry => 18
  | .castPlace _ _ => 19
  | .castDiscard _ => 20
  | .castAssess _ => 21
  | .castTake _ _ => 22
  | .queryStatus _ => 23
  | .queryCast _ => 24
  | .queryBay _ _ => 25
  | .queryMixer _ => 26
  | .queryQueue => 27
  | .queryBatch _ => 28
  | .queryClass _ => 29
  | .queryLot _ => 30
  | .clockSet _ => 31
  | .restart => 32

/-! ### Request bodies -/

/-- The form byte and three bytes of 10.6.4. -/
def refOf (body : List Byte) : Option CastRef :=
  match field body 0 1 with
  | 1 => some (.byId (field body 1 3))
  | 2 => some (.byPosition (field body 1 3))
  | _ => none

/-- A body of one fixed length. -/
def sized (n : Nat) (body : List Byte) (r : Content) : Content :=
  if body.length = n then r else .malformed

/-- ORDER POST (Table 10.7). -/
def parseOrder (body : List Byte) : Content :=
  match yesNo body 7 with
  | none => .malformed
  | some st =>
    .request (.orderPost
      { order := field body 0 2, lot := field body 2 2, cls := field body 4 1, count := field body 5 1,
        mixerChoice := field body 6 1, step := st, bayCount := field body 8 1, bayBytes := items body 9 1 4 })

/-- CLASS SET: the class number and the fields of Table 1.1 in order, the placement list behind its count byte
(R187 (7)). -/
def parseClass (body : List Byte) : Content :=
  if body.length = 33 + field body 32 1 then
    .request (.classSet (field body 0 1)
      { cement := field body 1 2, chloride0 := field body 3 1, chloride1 := field body 4 1, chloride2 := field body 5 1,
        chloride3 := field body 6 1, water := field body 7 2, chelant := field body 9 1, castMass := field body 10 2,
        moldMatch := field body 12 1, moldMask := field body 13 1, mixTime := field body 14 2, potLife := field body 16 1,
        datum := fieldInt body 17 1, cap := fieldInt body 18 2, minHumidity := field body 20 1, target := field body 21 3,
        minAge := field body 24 2, maxAge := field body 26 2, gapAllow := field body 28 2, dryAllow := field body 30 2,
        placement := items body 33 1 (field body 32 1) })
  else .malformed

/-- BAY SET: a presence byte for the fill order, the bay, and the fields of Table 6.2 less the bay state (R187 (5), (7)). An
absent fill order, to which R187 (5) gives no full width, is one count byte 0 (log 15). -/
def parseBay (body : List Byte) : Content :=
  let count := field body 4 1
  let rest := 5 + 2 * count
  let given := field body 0 1 % 2 = 1
  if body.length = 13 + 2 * count ∧ (given ∨ count = 0) then
    match yesNo body (rest + 3) with
    | none => .malformed
    | some auto =>
      .request (.baySet
        { bay := field body 1 1, levels := field body 2 1, slots := field body 3 1,
          fillOrder := if given then some (items body 5 2 count) else none, period := field body rest 2,
          cutLimit := field body (rest + 2) 1, autoSeal := auto, settle := field body (rest + 4) 2,
          coolDown := field body (rest + 6) 2 })
  else .malformed

/-- CAST TAKE (10.6.5). -/
def parseTake (body : List Byte) : Content :=
  match refOf body, yesNo body 4 with
  | some ref, some force => .request (.castTake ref force)
  | _, _ => .malformed

/-- The requests whose body is a cast reference alone. -/
def parseRef (body : List Byte) (f : CastRef → Request) : Content :=
  match refOf body with
  | some ref => .request (f ref)
  | none => .malformed

/-- QUERY BAY: the bay and the clear option (R140). -/
def parseQueryBay (body : List Byte) : Content :=
  match yesNo body 1 with
  | some clear => .request (.queryBay (field body 0 1) clear)
  | none => .malformed

/-- R181: what a received kind code and body spell. -/
def parseRequest (kind : Nat) (body : List Byte) : Content :=
  match kind with
  | 1 => sized 13 body (parseOrder body)
  | 2 => sized 2 body (.request (.orderWithdraw (field body 0 2)))
  | 3 => sized 5 body (.request (.lotDefine (field body 0 2) (field body 2 2) (field body 4 1)))
  | 4 => sized 2 body (.request (.lotClose (field body 0 2)))
  | 5 => parseClass body
  | 6 => parseBay body
  | 7 => sized 3 body (.request (.bayMark (field body 0 2) (field body 2 1)))
  | 8 => sized 1 body (.request (.baySeal (field body 0 1)))
  | 9 => sized 1 body (.request (.bayUnseal (field body 0 1)))
  | 10 => sized 0 body (.request .hunt)
  | 11 => sized 1 body (.request (.stationAccept (field body 0 1)))
  | 12 => sized 1 body (.request (.stationUnbind (field body 0 1)))
  | 13 => sized 1 body (.request (.mixerHold (field body 0 1)))
  | 14 => sized 1 body (.request (.mixerResume (field body 0 1)))
  | 15 => sized 1 body (.request (.mixerAbandon (field body 0 1)))
  | 16 => sized 1 body (.request (.mixerStep (field body 0 1)))
  | 17 => sized 1 body (.request (.mixerClear (field body 0 1)))
  | 18 => sized 0 body (.request .shuttleRetry)
  | 19 => sized 5 body (.request (.castPlace (field body 0 3) (field body 3 2)))
  | 20 => sized 4 body (parseRef body .castDiscard)
  | 21 => sized 3 body (.request (.castAssess (field body 0 3)))
  | 22 => sized 5 body (parseTake body)
  | 23 => sized 2 body (.request (.queryStatus (field body 0 2)))
  | 24 => sized 4 body (parseRef body .queryCast)
  | 25 => sized 2 body (parseQueryBay body)
  | 26 => sized 1 body (.request (.queryMixer (field body 0 1)))
  | 27 => sized 0 body (.request .queryQueue)
  | 28 => sized 2 body (.request (.queryBatch (field body 0 2)))
  | 29 => sized 1 body (.request (.queryClass (field body 0 1)))
  | 30 => sized 2 body (.request (.queryLot (field body 0 2)))
  | 31 => sized 4 body (.request (.clockSet (field body 0 4)))
  | 32 => sized 0 body (.request .restart)
  | _ => .unknownKind

/-- The three bytes and form byte of a cast reference (10.6.4). -/
def refBytes : CastRef → List Byte
  | .byId i => be 1 1 ++ be 3 i
  | .byPosition p => be 1 2 ++ be 3 p

/-- The body bytes of a class record (Table 1.1 in order). -/
def classBytes (r : ClassRecord) : List Byte :=
  be 2 r.cement ++ be 1 r.chloride0 ++ be 1 r.chloride1 ++ be 1 r.chloride2 ++ be 1 r.chloride3 ++ be 2 r.water ++
  be 1 r.chelant ++ be 2 r.castMass ++ be 1 r.moldMatch ++ be 1 r.moldMask ++ be 2 r.mixTime ++ be 1 r.potLife ++
  beInt 1 r.datum ++ beInt 2 r.cap ++ be 1 r.minHumidity ++ be 3 r.target ++ be 2 r.minAge ++ be 2 r.maxAge ++
  be 2 r.gapAllow ++ be 2 r.dryAllow ++ be 1 r.placement.length ++ itemBytes 1 r.placement

/-- The body a host sends for a request (R187, Table 10.7, log 15). -/
def requestBytes : Request → List Byte
  | .orderPost r =>
    be 2 r.order ++ be 2 r.lot ++ be 1 r.cls ++ be 1 r.count ++ be 1 r.mixerChoice ++ boolByte r.step ++
    be 1 r.bayCount ++ itemBytes 1 r.bayBytes
  | .orderWithdraw o => be 2 o
  | .lotDefine l u b => be 2 l ++ be 2 u ++ be 1 b
  | .lotClose l => be 2 l
  | .classSet c r => be 1 c ++ classBytes r
  | .baySet r =>
    boolByte r.fillOrder.isSome ++ be 1 r.bay ++ be 1 r.levels ++ be 1 r.slots ++
    be 1 (r.fillOrder.getD []).length ++ itemBytes 2 (r.fillOrder.getD []) ++ be 2 r.period ++ be 1 r.cutLimit ++
    boolByte r.autoSeal ++ be 2 r.settle ++ be 2 r.coolDown
  | .bayMark p st => be 2 p ++ be 1 st
  | .baySeal b => be 1 b
  | .bayUnseal b => be 1 b
  | .hunt => []
  | .stationAccept b => be 1 b
  | .stationUnbind b => be 1 b
  | .mixerHold m => be 1 m
  | .mixerResume m => be 1 m
  | .mixerAbandon m => be 1 m
  | .mixerStep m => be 1 m
  | .mixerClear m => be 1 m
  | .shuttleRetry => []
  | .castPlace c p => be 3 c ++ be 2 p
  | .castDiscard ref => refBytes ref
  | .castAssess c => be 3 c
  | .castTake ref force => refBytes ref ++ boolByte force
  | .queryStatus p => be 2 p
  | .queryCast ref => refBytes ref
  | .queryBay b clear => be 1 b ++ boolByte clear
  | .queryMixer m => be 1 m
  | .queryQueue => []
  | .queryBatch b => be 2 b
  | .queryClass c => be 1 c
  | .queryLot l => be 2 l
  | .clockSet v => be 4 v
  | .restart => []

/-- A Plant Link frame (Table 10.6). -/
def frameBytes (kind tag : Nat) (body : List Byte) : List Byte :=
  let covered := be 2 body.length ++ be 1 kind ++ be 1 tag ++ body
  Config.startByte :: (covered ++ crcBytes covered)

end Sys2Proof.Machine
end

