-- ==== Sys2Proof/Machine/Layout.lean ====
section
/-! DEFINITION. The byte layouts of what the controller sends: replies and notices (R182, R184, R187, Tables 10.6, 10.8, 10.10, 10.11) and Station Link records (Tables 10.9, 10.12). A body that section 10.6 does not lay out follows R187 (7) as log 15 reads it. -/

namespace Sys2Proof.Machine

/-! ### Codes of named values (R187 (3): the place in the defining table or list, from 1) -/

def MixerState.code : MixerState → Nat
  | .idle => 1 | .charging => 2 | .mixing => 3 | .pouring => 4 | .stepWait => 5 | .held => 6 | .lockout => 7
  | .discharging => 8

def Stage.code : Stage → Nat
  | .ash => 1 | .cement => 2 | .liquids => 3 | .mix => 4 | .pour => 5 | .discharging => 6

/-- A stage by its place in the list of R37 (2); BATCH_END (R37 (11)) is none of them, and the model codes it 6, after
the five stages: DESIGN CHOICE (log 51). -/
def Saved.code : Saved → Nat
  | .stage st => st.code
  | .batchEnd => 6

def Component.code : Component → Nat
  | .ash => 1 | .cement => 2 | .chelant => 3 | .water => 4

def Channel.code : Channel → Nat
  | .ash => 1 | .weighing => 2 | .discharge => 3 | .chelant => 4 | .water => 5 | .reject => 6

def Drive.code : Drive → Nat
  | .stopped => 1 | .agitate => 2 | .mix => 3

/-- Table 4.1 in order; Table 4.2 adds POWER_LOSS, which the model codes 11, after the ten causes: DESIGN CHOICE (log 51). -/
def HoldCause.code : HoldCause → Nat
  | .underdose => 1 | .overdose => 2 | .feederTimeout => 3 | .scaleTimeout => 4 | .meterTimeout => 5
  | .motorOverload => 6 | .tagFail => 7 | .noMold => 8 | .transitFull => 9 | .operator => 10 | .powerLoss => 11

def SecondCause.code : SecondCause → Nat
  | .potLife => 1 | .motorOverload => 2 | .powerLoss => 3

def EndCause.code : EndCause → Nat
  | .complete => 1 | .shortBatch => 2 | .potLife => 3 | .abandoned => 4 | .lockout => 5

def ShuttleState.code : ShuttleState → Nat
  | .idle => 1 | .moving => 2 | .waitingDoor => 3 | .faulted => 4

def ShuttleReason.code : ShuttleReason → Nat
  | .notConfirmed => 1 | .doorTimeout => 2

def BayState.code : BayState → Nat
  | .absent => 1 | .empty => 2 | .filling => 3 | .sealPending => 4 | .sealing => 5 | .sealed => 6 | .unsealing => 7
  | .unloading => 8 | .breached => 9

def SeqStep.code : SeqStep → Nat
  | .close => 1 | .lock => 2 | .condition => 3 | .cool => 4 | .unlock => 5 | .doorOpen => 6

def DoorFlag.code : DoorFlag → Nat
  | .closed => 1 | .opened => 2 | .unknown => 3

def LatchFlag.code : LatchFlag → Nat
  | .engaged => 1 | .released => 2 | .unknown => 3

def ReadyFlag.code : ReadyFlag → Nat
  | .ready => 1 | .notReady => 2 | .unknown => 3

def AlignerState.code : AlignerState → Nat
  | .unbound => 1 | .syncing => 2 | .locked => 3 | .blind => 4 | .mismatch => 5

def CastState.code : CastState → Nat
  | .transit => 1 | .curing => 2 | .releasable => 3 | .overdue => 4 | .held => 5 | .strayed => 6

def Entry.code : Entry → Nat
  | .nonexistent => 1 | .unusable => 2 | .free => 3 | .reserved _ _ => 4 | .occupied _ => 5

def MixerChoice.code : MixerChoice → Nat
  | .a => 1 | .b => 2 | .any => 3

/-- A = 1, B = 2. -/
def mixerCode : Mixer → Nat
  | .a => 1 | .b => 2

def LotState.code : LotState → Nat
  | .opened => 1 | .closed _ => 2

/-- The close rank, present when CLOSED (R6 (5)). -/
def LotState.rank? : LotState → Option Nat
  | .opened => none
  | .closed r => some r

def PotLife.code : PotLife → Nat
  | .notStarted => 1 | .running _ => 2 | .stopped => 3

/-- The expiry of a RUNNING timer. -/
def PotLife.expiry? : PotLife → Option Nat
  | .notStarted => none
  | .running e => some e
  | .stopped => none

/-- R60 (7): holder, place 1, place 2, neither, in one byte. The rule lists the grant holder, a place that is 1 or 2, and
neither, and does not say how they are coded: DESIGN CHOICE (log 51). -/
def ScaleStanding.code : ScaleStanding → Nat
  | .holder => 1 | .first => 2 | .second => 3 | .neither => 4

def CertificateKind.code : CertificateKind → Nat
  | .release => 1 | .discard => 2

/-- Table 10.2. -/
def Reason.code : Reason → Nat
  | .full => 1 | .duplicate => 2 | .noLot => 3 | .noClass => 4 | .wetLot => 5 | .overScale => 6 | .overMixer => 7
  | .range => 8 | .inUse => 9 | .busy => 10 | .state => 11 | .running => 12 | .noSuch => 13 | .notReleasable => 14
  | .clockBack => 15 | .unknownKind => 16 | .malformed => 17

/-- R187 (4): the first member is bit 0. -/
def setCode : List Bool → Nat
  | [] => 0
  | b :: rest => (if b then 1 else 0) + 2 * setCode rest

/-- Table 8.3 in order. -/
def CastCauses.code (h : CastCauses) : Nat := setCode [h.dose, h.gap, h.dry, h.record, h.clock]

/-- Table 8.4 in order; FORCED stands ninth and only a certificate holds it. -/
def flagsCode (f : CastFlags) (forced : Bool) : Nat :=
  setCode [f.overdue, f.overheat, f.massOff, f.untagged, f.blind, f.breached, f.outage, f.assessed, forced]

/-! ### Fields with presence bits (R187 (5), (7)) -/

/-- Part of a body: the presence bits of its optional fields, in order, and its bytes. -/
structure Enc where
  bits  : List Bool
  bytes : List Byte
  deriving DecidableEq, Repr

/-- Bytes with no optional field. -/
def Enc.raw (l : List Byte) : Enc := { bits := [], bytes := l }

/-- A number of `n` bytes. -/
def Enc.u (n v : Nat) : Enc := Enc.raw (be n v)

/-- A signed number of `n` bytes. -/
def Enc.i (n : Nat) (v : Int) : Enc := Enc.raw (beInt n v)

/-- A yes-or-no field. -/
def Enc.flag (v : Bool) : Enc := Enc.raw (boolByte v)

/-- Parts one after another. -/
def Enc.cat (l : List Enc) : Enc := { bits := l.flatMap (·.bits), bytes := l.flatMap (·.bytes) }

/-- An optional part: its presence bit, then the part at its full width, sent as 0 where absent. `blank` gives the
width. -/
def Enc.opt {α : Type} (o : Option α) (blank : α) (f : α → Enc) : Enc :=
  match o with
  | some v => { bits := true :: (f v).bits, bytes := (f v).bytes }
  | none =>
    { bits := false :: (f blank).bits.map (fun _ => false), bytes := (f blank).bytes.map (fun _ => 0#8) }

/-- An optional number of `n` bytes. -/
def Enc.optU (n : Nat) (o : Option Nat) : Enc := Enc.opt o 0 (Enc.u n)

/-- A list behind its count byte. -/
def Enc.list {α : Type} (l : List α) (f : α → Enc) : Enc := Enc.cat (Enc.u 1 l.length :: l.map f)

/-- Presence bits in bytes, the first bit 0 of the first byte. -/
def packBits : List Bool → List Byte
  | [] => []
  | a :: b :: c :: d :: e :: f :: g :: h :: rest => be 1 (setCode [a, b, c, d, e, f, g, h]) ++ packBits rest
  | l => be 1 (setCode l)

/-- A whole body: the presence bytes, then the fields. -/
def Enc.body (e : Enc) : List Byte := packBits e.bits ++ e.bytes

/-! ### Records inside bodies -/

/-- Seconds left to a time on the oscillator. -/
def leftTo (now : Nat) (t : Nat) : Nat := t - now

def encTargets (t : Targets) : Enc := Enc.cat [Enc.u 2 t.ash, Enc.u 2 t.cement, Enc.i 2 t.water, Enc.u 2 t.chelant]

/-- Table 2.1 in order. An absent bay list, to which R187 (5) gives no full width, is sent as one count byte 0 with its
presence bit clear (log 15). -/
def encOrder (o : Order) : Enc :=
  Enc.cat [Enc.u 2 o.number, Enc.u 2 o.lot, Enc.u 1 o.cls, Enc.u 1 o.count, Enc.u 1 o.choice.code,
    Enc.opt o.bays [] (fun l => Enc.list l (Enc.u 1)), Enc.flag o.step, encTargets o.targets, Enc.u 2 o.mass]

/-- R6 in order. -/
def encLot (l : Lot) : Enc :=
  Enc.cat [Enc.u 2 l.number, Enc.u 2 l.moisture, Enc.u 1 l.band, Enc.u 1 l.state.code, Enc.optU 1 l.state.rank?]

/-- Table 1.1 in order. -/
def encClass (r : ClassRecord) : Enc := Enc.raw (classBytes r)

/-- A class record whose widths stand for an absent one (R5). Its placement list is sent as one count byte 0, the other
fields as zeros (log 15). -/
def blankClass : ClassRecord :=
  { cement := 0, chloride0 := 0, chloride1 := 0, chloride2 := 0, chloride3 := 0, water := 0, chelant := 0, castMass := 0,
    moldMatch := 0, moldMask := 0, mixTime := 0, potLife := 0, datum := 0, cap := 0, minHumidity := 0, target := 0,
    minAge := 0, maxAge := 0, gapAllow := 0, dryAllow := 0, placement := [] }

def encActuals (a : Actuals) : Enc :=
  Enc.cat [Enc.optU 2 a.ash, Enc.optU 2 a.cement, Enc.optU 2 a.chelant, Enc.optU 2 a.water]

/-- Table 2.3 in order. -/
def encBatch (r : BatchRecord) : Enc :=
  Enc.cat [Enc.u 2 r.id, Enc.optU 2 r.order, Enc.optU 2 r.lot, Enc.optU 1 r.cls, Enc.optU 1 (r.mixer.map mixerCode),
    encTargets r.targets, Enc.u 2 r.mass, encActuals r.actuals, Enc.list r.reservation (Enc.u 2), Enc.u 1 r.poured,
    Enc.u 2 r.rejected, Enc.flag r.doseDeviation, Enc.flag r.stepped, Enc.flag r.damaged, Enc.optU 4 r.start,
    Enc.optU 4 r.endTime, Enc.optU 1 (r.endCause.map EndCause.code), Enc.u 1 r.live]

/-- Table 4.2 in order. -/
def encHold (h : HoldRecord) : Enc :=
  Enc.cat [Enc.u 1 h.cause.code, Enc.optU 1 (h.component.map Component.code), Enc.u 1 h.stage.code, Enc.optU 2 h.dosed,
    Enc.u 1 h.poured, Enc.u 4 h.time]

/-- A hold record whose widths stand for an absent one. -/
def blankHold : HoldRecord :=
  { cause := .powerLoss, component := none, stage := .ash, dosed := none, poured := 0, time := 0 }

def encMarker (m : Marker) : Enc := Enc.cat [Enc.u 1 m.slot, Enc.u 2 m.batch, Enc.u 1 m.stage.code]

/-- R60 (4). -/
def encDelivery (now : Nat) (d : Delivery) : Enc :=
  Enc.cat [Enc.u 1 d.channel.code, Enc.u 2 d.amount, Enc.optU 2 (d.limit.map (leftTo now))]

/-- R60 (1) to (10) in order. Where no batch record stands (IDLE, or its slot freed) the targets, the actuals and the casts
poured are marked absent, and the contents, which R54 takes as 0 from absent actuals, are sent as a present 0: the model's
choice (log 52). -/
def encMixer (i : MixerInfo) : Enc :=
  let q := i.sequencer
  Enc.cat [
    Enc.u 1 q.state.code, Enc.optU 1 (q.stage.map Stage.code), Enc.optU 1 (q.saved.map Saved.code), Enc.u 1 q.drive.code,
    Enc.optU 1 (q.batch.map (·.slot)), Enc.optU 2 (q.batch.map (·.id)), Enc.optU 2 (i.record.bind (·.order)),
    Enc.optU 1 (q.component.map Component.code), Enc.u 2 q.dosed, Enc.flag q.topUp, Enc.u 2 q.cementInDrum,
    Enc.opt q.delivery { channel := .ash, amount := 0, limit := none } (encDelivery i.now),
    Enc.opt (i.record.map (·.targets)) { ash := 0, cement := 0, water := 0, chelant := 0 } encTargets,
    encActuals ((i.record.map (·.actuals)).getD { ash := none, cement := none, chelant := none, water := none }),
    Enc.u 2 i.contents,
    Enc.u 1 q.potLife.code, Enc.optU 2 (q.potLife.expiry?.map (leftTo i.now)), Enc.optU 2 (q.mixTimer.map (leftTo i.now)),
    Enc.u 1 i.standing.code, Enc.optU 1 i.castIndex, Enc.optU 1 (i.record.map (·.poured)),
    Enc.opt q.pendingHold { cause := .operator, component := none }
      (fun p => Enc.cat [Enc.u 1 p.cause.code, Enc.optU 1 (p.component.map Component.code)]),
    Enc.flag q.pendingExpiry, Enc.flag q.blocked, Enc.opt q.hold blankHold encHold,
    Enc.opt q.lockout { second := .powerLoss, time := 0 } (fun l => Enc.cat [Enc.u 1 l.second.code, Enc.u 4 l.time]),
    Enc.opt i.marker { slot := 0, batch := 0, stage := .ash } encMarker]

/-- The bay part of R98 and the aligner part of R140, in order. The bay state, an item of Table 6.1 and a field of Table
6.2, stands once, at its place in Table 6.1 (log 15). -/
def encBay (i : BayInfo) : Enc :=
  let c := i.controller
  let g := i.settings
  let a := i.aligner
  Enc.cat [
    Enc.u 1 g.state.code, Enc.optU 1 (c.step.map SeqStep.code), Enc.optU 2 (c.deadline.map (leftTo i.now)),
    Enc.flag c.readyWanted, Enc.u 1 g.levels, Enc.u 1 g.slots, Enc.list g.fillOrder (Enc.u 2), Enc.u 2 g.period,
    Enc.u 1 g.cutLimit, Enc.flag g.autoSeal, Enc.u 2 g.settle, Enc.u 2 g.coolDown, Enc.u 1 c.door.code, Enc.u 1 c.latch.code,
    Enc.u 1 c.ready.code, Enc.u 1 (if c.conditioning then 1 else 2), Enc.u 1 i.free, Enc.u 1 i.unusable,
    Enc.u 1 i.nonexistent, Enc.u 1 i.reserved, Enc.cat (i.casts.map (Enc.u 1)),
    Enc.optU 1 (i.binding.map (·.address)), Enc.optU 4 (i.binding.map (·.serial)),
    Enc.u 1 a.state.code, Enc.optU 1 (a.expected.map (·.toNat)), Enc.optU 1 (a.candidate.map (·.toNat)), Enc.u 1 a.run,
    Enc.u 1 g.cutLimit, Enc.opt (a.lastGood.map (·.1)) 0 (Enc.i 2), Enc.optU 2 (a.lastGood.map (·.2)),
    Enc.optU 2 (a.lateTimer.map (leftTo i.now)), Enc.flag a.misinserted, Enc.u 2 a.counters.accepted.toNat,
    Enc.u 2 a.counters.lost.toNat, Enc.u 2 a.counters.misinserted.toNat, Enc.u 2 a.counters.late.toNat,
    Enc.u 2 a.counters.substituted.toNat, Enc.optU 1 (i.binding.map (·.address)), Enc.optU 4 (i.binding.map (·.serial)),
    Enc.optU 4 a.offered]

/-- Position, bay, level, slot and status of a position entry (R143). -/
def placeBytes (p : Nat) (e : Entry) : List Byte :=
  be 2 p ++ be 1 ((p - 1) / 24 + 1) ++ be 1 ((p - 1) % 24 / 6 + 1) ++ be 1 ((p - 1) % 6 + 1) ++ be 1 e.code

/-- Table 10.10 from offset 2. -/
def castBytes (i : CastInfo) : List Byte :=
  match i.entry with
  | .occupied c =>
    let f := i.figures.getD { target := 0, lacking := 0, minAgeLeft := 0, maxAgeLeft := 0, gapAllow := 0, dryAllow := 0 }
    placeBytes i.position i.entry ++ be 1 c.slot ++ be 2 c.batch ++ be 1 (setCode [c.placed.isSome, i.figures.isSome]) ++
    be 3 c.id ++ be 2 c.order ++ be 2 c.lot ++ be 1 c.cls ++ be 4 c.pourTime ++ be 4 (c.placed.getD 0) ++ be 2 c.mass ++
    be 4 c.maturity ++ be 4 c.gap ++ be 4 c.dry ++ be 2 c.substituted ++ be 1 c.state.code ++ be 1 c.causes.code ++
    be 2 (flagsCode c.flags false) ++ be 4 i.age ++ be 4 f.target ++ be 4 f.lacking ++ be 4 f.minAgeLeft ++
    be 4 f.maxAgeLeft ++ be 2 f.gapAllow ++ be 2 f.dryAllow ++ be 1 i.bayState.code ++ be 1 i.aligner.code
  | .reserved slot batch => placeBytes i.position i.entry ++ be 1 slot ++ be 2 batch ++ be 1 0
  | .nonexistent => placeBytes i.position i.entry ++ be 4 0
  | .unusable => placeBytes i.position i.entry ++ be 4 0
  | .free => placeBytes i.position i.entry ++ be 4 0

/-- Table 10.11 from offset 2. -/
def certificateBytes (c : Certificate) : List Byte :=
  be 1 c.kind.code ++ be 3 c.cast ++ be 2 c.order ++ be 2 c.batch ++ be 2 c.lot ++ be 1 c.cls ++ be 2 c.position ++
  be 1 c.state.code ++ be 1 (setCode [c.placed.isSome]) ++ be 4 c.pourTime ++ be 4 (c.placed.getD 0) ++ be 4 c.removed ++
  be 2 c.mass ++ be 4 c.maturity ++ be 4 c.age ++ be 4 c.gap ++ be 4 c.dry ++ be 2 c.substituted ++
  be 2 (flagsCode c.flags c.forced) ++ be 1 c.causes.code

def encTransit (e : TransitEntry) : Enc :=
  Enc.cat [Enc.u 3 e.cast, Enc.u 2 e.position, Enc.u 1 (mixerCode e.station), Enc.u 1 (if e.written then 2 else 1)]

/-- R185 (1) to (8) in order. -/
def encStatus (i : StatusInfo) : Enc :=
  Enc.cat [
    Enc.flag i.overrun, Enc.u 1 i.notices, Enc.u 4 i.clock, Enc.u 1 i.mixerA.code, Enc.u 1 i.mixerB.code,
    Enc.optU 2 i.batchA, Enc.optU 2 i.batchB, Enc.u 1 i.shuttle.code, Enc.list i.transit encTransit, Enc.u 1 i.orders,
    Enc.u 1 i.batches, Enc.flag i.hunting,
    Enc.cat (i.bays.map fun b => Enc.cat [Enc.u 1 b.1.code, Enc.u 1 b.2.code]), Enc.cat (i.casts.map (Enc.u 2)),
    Enc.list i.strayed (fun c => Enc.cat [Enc.u 3 c.1, Enc.u 2 c.2]), Enc.flag i.more]

/-- R23 in order. The finding on the mixer is one optional field: its presence bit says whether there is one (log 15). -/
def encQueueLine (l : QueueLine) : Enc :=
  Enc.cat [Enc.u 1 l.place, encOrder l.order, Enc.optU 1 (l.mixer.map mixerCode), Enc.flag l.slotFree, Enc.u 1 l.positions]

/-- R34 (2) in order; running is coded 1, ended 2. -/
def encBatchLine (l : BatchLine) : Enc :=
  Enc.cat [Enc.u 1 l.slot, Enc.u 2 l.id, Enc.optU 2 l.order, Enc.optU 1 (l.mixer.map mixerCode),
    Enc.u 1 (if l.ended then 2 else 1), Enc.optU 1 (l.endCause.map EndCause.code), Enc.u 1 l.poured, Enc.u 1 l.live,
    Enc.flag l.damaged]

/-- What follows result and reason. The number of queued orders (R23) and the number of occupied slots (R34 (2)) are sent
once, as the count byte of the list that follows (R187 (7)), and not as a field of their own before it (log 15). -/
def bodyBytes : Body → List Byte
  | .empty => []
  | .targets d => be 4 d.ash ++ be 2 d.cement ++ beInt 2 d.water ++ be 2 d.chelant ++ be 2 d.mass
  | .order o => (encOrder o).body
  | .lot l => (encLot l).body
  | .lotUses l n => (Enc.cat [encLot l, Enc.u 1 n]).body
  | .lots l => (Enc.list l (fun x => Enc.cat [encLot x.1, Enc.u 1 x.2])).body
  | .classInfo r q n c =>
    (Enc.cat [Enc.u 1 (if r.isSome then 2 else 1), Enc.opt r blankClass encClass, Enc.u 1 q, Enc.u 1 n, Enc.u 2 c]).body
  | .queue l => (Enc.list l encQueueLine).body
  | .batch slot r n => (Enc.cat [Enc.u 1 slot, encBatch r, Enc.u 1 n]).body
  | .batches l => (Enc.list l encBatchLine).body
  | .mixer i => (encMixer i).body
  | .bay i => (encBay i).body
  | .cast i => castBytes i
  | .status i => (encStatus i).body
  | .certificate c => certificateBytes c
  | .assessed c h st => be 3 c ++ be 1 h.code ++ be 1 st.code
  | .confirmed c p st => be 3 c ++ be 2 p ++ be 1 st.code
  | .moved c o n st => be 3 c ++ be 2 o ++ be 2 n ++ be 1 st.code

/-- R182: result, reason, and the rest. -/
def replyBytes : Reply → List Byte
  | .done b => be 1 1 ++ be 1 0 ++ bodyBytes b
  | .taken => be 1 2 ++ be 1 0
  | .refused r b => be 1 3 ++ be 1 r.code ++ bodyBytes b

/-! ### Notices -/

/-- The row of a notice in Table 10.4. -/
def noticeRow : Notice → Nat
  | .orderStarted _ _ _ _ _ => 1
  | .orderEnded _ _ _ _ _ => 2
  | .mixerHeld _ _ _ _ => 3
  | .mixerLockout _ _ _ _ _ _ _ => 4
  | .stepWait _ _ _ _ => 5
  | .shuttleFault _ _ _ _ => 6
  | .castReleasable _ _ _ _ => 7
  | .castOverdue _ _ _ _ _ => 8
  | .castHeld _ _ _ => 9
  | .baySealed _ _ => 10
  | .sealFailed _ _ _ _ => 11
  | .conditioningSlow _ _ => 12
  | .bayBreached _ _ _ _ _ => 13
  | .unsealFailed _ _ _ _ _ => 14
  | .bayUnloading _ _ => 15
  | .bayEmpty _ _ => 16
  | .unloadRequest _ _ => 17
  | .button _ _ _ => 18
  | .stationBlind _ _ _ _ => 19
  | .stationRestored _ _ _ => 20
  | .huntDone _ _ _ _ => 21
  | .powerUp _ => 22

/-- R184: how many items of a size fit into a number of bytes. -/
def fitting {α : Type} (room size : Nat) (l : List α) : List α := l.take (room / size)

/-- R184: HUNT DONE carries as many items of each list as fit, in list order. -/
def huntBytes (b : List HuntBinding) (m : List HuntMismatch) (q : List HuntSilent) (f : List HuntLeftover) : List Byte :=
  let room := Config.bodyMax - 4
  let b := fitting room 6 b
  let room := room - 6 * b.length
  let m := fitting room 10 m
  let room := room - 10 * m.length
  let q := fitting room 2 q
  let room := room - 2 * q.length
  let f := fitting room 5 f
  (Enc.cat [Enc.list b (fun x => Enc.cat [Enc.u 1 x.bay, Enc.u 1 x.address, Enc.u 4 x.serial]),
    Enc.list m (fun x => Enc.cat [Enc.u 1 x.bay, Enc.u 1 x.address, Enc.u 4 x.bound, Enc.u 4 x.serial]),
    Enc.list q (fun x => Enc.cat [Enc.u 1 x.bay, Enc.u 1 x.address]),
    Enc.list f (fun x => Enc.cat [Enc.u 1 x.address, Enc.u 4 x.serial])]).body

/-- R192 in order. -/
def powerUpBytes (r : PowerUpReport) : List Byte :=
  let d := r.damaged
  be 4 r.outage ++ boolByte r.clockLost ++ be 2 d.entries ++ be 1 d.batches ++ be 1 d.classes ++ be 1 d.lots ++
  be 1 d.bindings ++ be 1 d.settings ++ be 1 d.castCounter ++ be 1 d.batchCounter ++ be 1 d.markers ++ be 1 d.lastStamp ++
  be 1 r.locked.length ++ itemBytes 1 (r.locked.map mixerCode) ++ be 1 r.breached ++ be 2 r.strayed

/-- R184: the body of a notice. -/
def noticeBytes : Notice → List Byte
  | .orderStarted o b sl m ps => be 2 o ++ be 2 b ++ be 1 sl ++ be 1 (mixerCode m) ++ be 1 ps.length ++ itemBytes 2 ps
  | .orderEnded o b c p r => (Enc.cat [Enc.optU 2 o, Enc.u 2 b, Enc.u 1 c.code, Enc.u 1 p, Enc.u 2 r]).body
  | .mixerHeld m b o h => (Enc.cat [Enc.u 1 (mixerCode m), Enc.u 2 b, Enc.optU 2 o, encHold h]).body
  | .mixerLockout m b o x t c st =>
    (Enc.cat [Enc.u 1 (mixerCode m), Enc.u 2 b, Enc.optU 2 o, Enc.u 1 x.code, Enc.u 4 t, Enc.u 1 c.code,
      Enc.u 1 st.code]).body
  | .stepWait m b c sv => be 1 (mixerCode m) ++ be 2 b ++ be 1 c.code ++ be 1 sv.code
  | .shuttleFault c p b r => be 3 c ++ be 2 p ++ be 1 b ++ be 1 r.code
  | .castReleasable c p m a => be 3 c ++ be 2 p ++ be 3 m ++ be 4 a
  | .castOverdue c p m t a => be 3 c ++ be 2 p ++ be 3 m ++ be 3 t ++ be 4 a
  | .castHeld c p h => be 3 c ++ be 2 p ++ be 1 h.code
  | .baySealed b t => be 1 b ++ be 4 t
  | .sealFailed b st d l => be 1 b ++ be 1 st.code ++ be 1 d.code ++ be 1 l.code
  | .conditioningSlow b t => be 1 b ++ be 4 t
  | .bayBreached b left st t n =>
    (Enc.cat [Enc.u 1 b, Enc.u 1 left.code, Enc.optU 1 (st.map SeqStep.code), Enc.u 4 t, Enc.u 1 n]).body
  | .unsealFailed b st d l r => be 1 b ++ be 1 st.code ++ be 1 d.code ++ be 1 l.code ++ be 1 r.code
  | .bayUnloading b n => be 1 b ++ be 1 n
  | .bayEmpty b left => be 1 b ++ be 1 left.code
  | .unloadRequest b t => be 1 b ++ be 4 t
  | .button b x st => (Enc.cat [Enc.u 1 b, Enc.u 1 x.code, Enc.optU 1 (st.map SeqStep.code)]).body
  | .stationBlind b a r t => be 1 b ++ be 1 a ++ be 1 r ++ be 4 t
  | .stationRestored b q t => be 1 b ++ be 1 q.toNat ++ be 4 t
  | .huntDone b m q f => huntBytes b m q f
  | .powerUp r => powerUpBytes r

/-- R179, Table 10.6: the bytes of a frame on the line. -/
def encodeFrame : Frame → List Byte
  | .reply kind tag r => frameBytes kind tag (replyBytes r)
  | .notice n => frameBytes (128 + noticeRow n) 0 (noticeBytes n)

/-! ### Station Link records -/

/-- R122: the action code in the order of R122, and the period, 0 but for set period (10.6.6). -/
def Action.code : Action → Nat × Nat
  | .doorOpen => (1, 0)
  | .doorClose => (2, 0)
  | .lock => (3, 0)
  | .unlock => (4, 0)
  | .conditionOn => (5, 0)
  | .conditionOff => (6, 0)
  | .setPeriod p => (7, p)

/-- 10.6.6: start byte, address, record type, fields, check word. -/
def stationFrame (address kind : Nat) (fields : List Byte) : List Byte :=
  let covered := be 1 address ++ be 1 kind ++ fields
  Config.startByte :: (covered ++ crcBytes covered)

/-- Table 10.12: the bytes of a record the controller sends. -/
def encodeStation : StationRecord → List Byte
  | .poll a => stationFrame a 1 []
  | .probe a => stationFrame a 4 []
  | .actuation a act => stationFrame a 6 (be 1 act.code.1 ++ be 2 act.code.2)

/-- Table 10.9: the frame a station sends for a condition report. -/
def reportFrame (r : Report) : List Byte :=
  stationFrame r.address 2 (be 1 r.sequence.toNat ++ be 2 r.period ++ beInt 2 r.temperature ++ be 2 r.humidity ++
    be 1 (setCode [r.doorClosed, r.latched, r.ready, r.button, r.fault]))

end Sys2Proof.Machine
end

