-- ==== Sys2Proof/Machine/Ops.lean ====
section
/-! DEFINITION. The named operations that every block uses: reading and writing the numbered tables, the one write to the Retained Store (R188), what is sent to the equipment, the notice queue and the transmitter (R179, R183). -/

namespace Sys2Proof.Machine

/-! ### Pairs and numbered tables -/

/-- The value of one mixer. -/
def PerMixer.get {α : Type} (p : PerMixer α) : Mixer → α
  | .a => p.a
  | .b => p.b

/-- The pair with one mixer's value replaced. -/
def PerMixer.put {α : Type} (p : PerMixer α) (m : Mixer) (v : α) : PerMixer α :=
  match m with
  | .a => { p with a := v }
  | .b => { p with b := v }

/-- The other mixer. -/
def otherMixer : Mixer → Mixer
  | .a => .b
  | .b => .a

/-- The item with number `i` of a table whose items are numbered from 1. -/
def at1 {α : Type} {n : Nat} (v : Vector α n) (i : Nat) (d : α) : α :=
  match i with
  | 0 => d
  | k + 1 => v[k]?.getD d

/-- The table with item `i` replaced. -/
def put1 {α : Type} {n : Nat} (v : Vector α n) (i : Nat) (x : α) : Vector α n :=
  match i with
  | 0 => v
  | k + 1 => v.setIfInBounds k x

/-- The numbers of the twelve bays. -/
def allBays : List Nat := List.range' 1 12

/-- The numbers of the 288 positions. -/
def allPositions : List Nat := List.range' 1 288

/-- The numbers of the 32 batch slots. -/
def allSlots : List Nat := List.range' 1 32

/-- The bay that owns a position (R143 (2)). -/
def bayOf (p : Nat) : Nat := (p - 1) / 24 + 1

/-! ### Reading -/

def State.entry (s : State) (p : Nat) : Entry := at1 s.store.entries p .nonexistent
def State.batch (s : State) (slot : Nat) : Option BatchRecord := at1 s.store.batches slot none
def State.cls (s : State) (n : Nat) : Option ClassRecord := at1 s.store.classes n none
def State.lot (s : State) (n : Nat) : Option Lot := at1 s.store.lots n none
def State.binding (s : State) (b : Nat) : Option Binding := at1 s.store.bindings b none
def State.settings (s : State) (b : Nat) : BaySettings := at1 s.store.settings b (BaySettings.default b .absent)
def State.bayState (s : State) (b : Nat) : BayState := (s.settings b).state
def State.bay (s : State) (b : Nat) : Bay := at1 s.bays b Bay.initial
def State.aligner (s : State) (b : Nat) : Aligner := at1 s.aligners b Aligner.unbound
def State.seq (s : State) (m : Mixer) : Sequencer := s.mixers.get m
def State.station (s : State) (m : Mixer) : PourStation := s.stations.get m
def State.marker (s : State) (m : Mixer) : Option Marker := s.store.markers.get m

/-- The cast part that an entry holds. -/
def Entry.cast? : Entry → Option CastPart
  | .occupied c => some c
  | .nonexistent => none
  | .unusable => none
  | .free => none
  | .reserved _ _ => none

/-- The cast part at a position. -/
def State.castAt (s : State) (p : Nat) : Option CastPart := (s.entry p).cast?

/-! ### Volatile state -/

/-- Change one Mixer Sequencer. -/
def withSeq (m : Mixer) (f : Sequencer → Sequencer) (s : State) : State :=
  { s with mixers := s.mixers.put m (f (s.seq m)) }

/-- Change one Pour Station. -/
def withStation (m : Mixer) (f : PourStation → PourStation) (s : State) : State :=
  { s with stations := s.stations.put m (f (s.station m)) }

/-- Change one Bay Controller. -/
def withBay (b : Nat) (f : Bay → Bay) (s : State) : State :=
  { s with bays := put1 s.bays b (f (s.bay b)) }

/-- Change one Report Aligner. -/
def withAligner (b : Nat) (f : Aligner → Aligner) (s : State) : State :=
  { s with aligners := put1 s.aligners b (f (s.aligner b)) }

/-- Send something to the equipment or on a link (log 39). -/
def emit (o : Output) (s : State) : State := { s with outputs := s.outputs ++ [o] }

/-! ### The Retained Store -/

/-- The record that a write writes. -/
def Retained.id : Retained → RecordId
  | .cls n _ => .cls n
  | .lot n _ => .lot n
  | .batch n _ => .batch n
  | .entry p _ => .entry p
  | .binding b _ => .binding b
  | .settings b _ => .settings b
  | .castCounter _ => .castCounter
  | .batchCounter _ => .batchCounter
  | .marker m _ => .marker m
  | .lastStamp _ => .lastStamp

/-- A record with its contents. -/
def Store.read (t : Store) : RecordId → Retained
  | .cls n => .cls n (at1 t.classes n none)
  | .lot n => .lot n (at1 t.lots n none)
  | .batch n => .batch n (at1 t.batches n none)
  | .entry p => .entry p (at1 t.entries p .nonexistent)
  | .binding b => .binding b (at1 t.bindings b none)
  | .settings b => .settings b (at1 t.settings b (BaySettings.default b .absent))
  | .castCounter => .castCounter t.castCounter
  | .batchCounter => .batchCounter t.batchCounter
  | .marker m => .marker m (t.markers.get m)
  | .lastStamp => .lastStamp t.lastStamp

/-- The store with one record's contents replaced. -/
def Store.put (t : Store) : Retained → Store
  | .cls n r => { t with classes := put1 t.classes n r }
  | .lot n r => { t with lots := put1 t.lots n r }
  | .batch n r => { t with batches := put1 t.batches n r }
  | .entry p e => { t with entries := put1 t.entries p e }
  | .binding b r => { t with bindings := put1 t.bindings b r }
  | .settings b r => { t with settings := put1 t.settings b r }
  | .castCounter n => { t with castCounter := n }
  | .batchCounter n => { t with batchCounter := n }
  | .marker m r => { t with markers := t.markers.put m r }
  | .lastStamp n => { t with lastStamp := n }

/-- The store with a record's check word in agreement. -/
def Store.heal (t : Store) (d : RecordId) : Store := { t with damaged := t.damaged.filter fun x => decide (x ≠ d) }

/-- The write of one record (R188): contents, then check word. The journal keeps what the record held (log 7). -/
def write (r : Retained) (s : State) : State :=
  { s with
    journal := { before := s.store.read r.id, good := !s.store.damaged.contains r.id } :: s.journal
    store := (s.store.put r).heal r.id }

def writeEntry (p : Nat) (e : Entry) (s : State) : State := write (.entry p e) s
def writeBatch (slot : Nat) (r : Option BatchRecord) (s : State) : State := write (.batch slot r) s
def writeSettings (b : Nat) (r : BaySettings) (s : State) : State := write (.settings b r) s
def writeMarker (m : Mixer) (r : Option Marker) (s : State) : State := write (.marker m r) s

/-- Change a field of a batch record, and write it (R35). -/
def updateBatch (slot : Nat) (f : BatchRecord → BatchRecord) (s : State) : State :=
  match s.batch slot with
  | none => s
  | some r => writeBatch slot (some (f r)) s

/-! ### Plant Link: what is sent -/

/-- The transmitter begins a frame (R179). -/
def beginFrame (f : Frame) (s : State) : State :=
  emit (.frame f) { s with plantLink := { s.plantLink with sending := some { frame := f, bytes := encodeFrame f } } }

/-- R179: a transmitter that is free chooses the next frame. A request in hand whose reply is not formed yet keeps the
notices raised meanwhile waiting, since its reply goes before them (R181). -/
def kick (s : State) : State :=
  match s.plantLink.sending with
  | some _ => s
  | none =>
    match s.plantLink.reply with
    | some f => beginFrame f { s with plantLink := { s.plantLink with reply := none } }
    | none =>
      match s.plantLink.inHand with
      | some _ => s
      | none =>
        match s.plantLink.notices with
        | [] => s
        | n :: rest => beginFrame (.notice n) { s with plantLink := { s.plantLink with notices := rest } }

/-- R183: a notice joins the tail of the queue, or is lost with the overrun flag set. -/
def queueNotice (n : Notice) (s : State) : State :=
  if s.plantLink.notices.length < Config.noticeQueueSize then
    { s with plantLink := { s.plantLink with notices := s.plantLink.notices ++ [n] } }
  else { s with plantLink := { s.plantLink with overrun := true } }

/-- A block raises a notice (R183); during recovery it is held (R192). -/
def raise (n : Notice) (s : State) : State :=
  match s.plantLink.held with
  | some l => { s with plantLink := { s.plantLink with held := some (l ++ [n]) } }
  | none => kick (queueNotice n s)

/-! ### Station Link: actuation records -/

/-- The record for a bay joins what is to be sent between exchanges (R120, R103). An UNBOUND bay is sent nothing. -/
def actuate (b : Nat) (a : Action) (s : State) : State :=
  match (s.aligner b).state, s.binding b with
  | .unbound, _ => s
  | _, none => s
  | _, some k =>
    { s with stationLink :=
        { s.stationLink with waitingActuations := s.stationLink.waitingActuations ++ [.actuation k.address a] } }

/-- R103: a conditioning record, with the conditioning command it sets. -/
def setConditioning (b : Nat) (on : Bool) (s : State) : State :=
  match (s.aligner b).state with
  | .unbound => s
  | _ => withBay b (fun c => { c with conditioning := on })
      (actuate b (if on then .conditionOn else .conditionOff) s)

/-! ### The frame of a command -/

/-- A command begins: nothing sent, nothing written, no indication cleared. -/
def begin (s : State) : State := { s with outputs := [], journal := [], batteryCleared := none }

/-! ### Times -/

/-- The time on the oscillator `n` seconds ahead. -/
def ahead (s : State) (n : Nat) : Nat := s.oscillator + n

/-- A timer runs and its time has been reached (log 3). -/
def due (now : Nat) (t : Option Nat) : Bool := t.any fun x => decide (x ≤ now)

/-! ### Numbers given in turn -/

/-- The n-th ID tried after a counter, in 1..`top` (R29, R87). -/
def idAfter (counter top n : Nat) : Nat := (counter + n) % top + 1

end Sys2Proof.Machine
end

