-- ==== Sys2Proof/Machine/Cure.lean ====
section
/-! DEFINITION. The Cure Table and the Maturity Unit (chapter 8): changes of a cast part, evaluation, credit of condition intervals, the minute timer. -/

namespace Sys2Proof.Machine

/-- R144: a change of a cast part's fields is written; one that changes nothing is no change. -/
def putCast (p : Nat) (new : CastPart) (s : State) : State :=
  match s.castAt p with
  | some old => if new = old then s else writeEntry p (.occupied new) s
  | none => s

/-- Change the cast part at a position. -/
def updateCast (p : Nat) (f : CastPart → CastPart) (s : State) : State :=
  match s.castAt p with
  | some c => putCast p (f c) s
  | none => s

/-- R156 to R159: the evaluation of the cast at a position, with its notice. What it changes is written as a change of its
own, after that of the rule that calls for it (log 47). -/
def evaluateAt (p : Nat) (s : State) : State :=
  match s.castAt p with
  | none => s
  | some c =>
    let new := evaluateCast (s.cls c.cls) s.clock c
    let t := putCast p new s
    match evaluationNotice (s.cls c.cls) s.clock p c new with
    | none => t
    | some n => raise n t

/-- R87, R146: the position of the cast part that holds an ID. A loss of power between the two writes of a move (R96, R164)
leaves it in two entries; the lowest position is found (log 50). -/
def findCast (id : Nat) (s : State) : Option Nat :=
  allPositions.find? fun p => match s.castAt p with
    | some c => decide (c.id = id)
    | none => false

/-- R150: what one interval does at one position. -/
def creditAt (i : Interval) (p : Nat) (s : State) : State :=
  match s.castAt p with
  | none => s
  | some c =>
    if c.state.credited ∧ (c.placed.any fun t => decide (t < i.arrival)) then
      evaluateAt p (putCast p (creditCast (s.cls c.cls) i c) s)
    else s

/-- R150: the Maturity Unit credits an interval to the casts of the bay, in rising order of position. -/
def creditInterval (i : Interval) (s : State) : State :=
  (bayPositions i.bay).foldl (fun t p => creditAt i p t) s

/-- R155: the bay's time is unmeasured. -/
def unheard : AlignerState → Bool
  | .blind => true
  | .mismatch => true
  | .unbound => true
  | .syncing => false
  | .locked => false

/-- R155: what a minute timer expiry counts for one cast. -/
def minuteCast (a : AlignerState) (c : CastPart) : CastPart :=
  match c.state with
  | .transit => c
  | .strayed => c.addGap Config.minute
  | _ => if unheard a then { c.addGap Config.minute with flags := { c.flags with blind := true } } else c

/-- R154 (1) for one position. -/
def minuteAt (p : Nat) (s : State) : State :=
  evaluateAt p (updateCast p (minuteCast (s.aligner (bayOf p)).state) s)

/-- R154: a minute timer expiry. The next one is 60 s after the clock (log 38). -/
def minuteExpiry (s : State) : State :=
  let t := allPositions.foldl (fun t p => minuteAt p t) { s with minuteNext := s.clock + Config.minute }
  write (.lastStamp t.clock) t

/-- R154: the clock has reached the minute timer's next expiry; before that nothing runs out (log 3). -/
def minuteDue (s : State) : State := if s.minuteNext ≤ s.clock then minuteExpiry s else s

/-- R93, R163, R164: the cast at a position is CURING from now on. -/
def placeCast (p : Nat) (s : State) : State :=
  updateCast p (fun c => { c with state := .curing, placed := some s.clock }) s

/-- How many casts of the Cure Table satisfy a test. -/
def countCasts (f : CastPart → Bool) (s : State) : Nat :=
  (allPositions.filter fun p => match s.castAt p with
    | some c => f c
    | none => false).length

/-- The cast states in the order of Table 8.5. -/
def castStates : List CastState := [.transit, .curing, .releasable, .overdue, .held, .strayed]

/-! ### Numbers of casts -/

/-- R87: the next cast ID: the first after the counter that no cast part holds. -/
def nextCastId (s : State) : Nat :=
  ((List.range 289).map (idAfter s.store.castCounter Config.castIdMax)).find?
    (fun i => (findCast i s).isNone) |>.getD (idAfter s.store.castCounter Config.castIdMax 0)

end Sys2Proof.Machine
end

