-- ==== Sys2Proof/Machine/Batch.lean ====
section
/-! DEFINITION. The batch of a Mixer Sequencer, and the first operations of the sequencer: its drive, its delivery requests, its marker, its contents and the entry into stage ASH (R36 to R43, R54). The ending and freeing of batches stands in Orders.lean. -/

namespace Sys2Proof.Machine

/-! ### A sequencer's batch -/

/-- The slot and record of the batch a sequencer runs, named by slot and batch ID together. -/
def batchOf (m : Mixer) (s : State) : Option (Nat × BatchRecord) :=
  match (s.seq m).batch with
  | none => none
  | some r => match s.batch r.slot with
    | none => none
    | some x => if x.id = r.id then some (r.slot, x) else none

/-- Change a field of the sequencer's batch record. -/
def updateOwnBatch (m : Mixer) (f : BatchRecord → BatchRecord) (s : State) : State :=
  match batchOf m s with
  | none => s
  | some (slot, _) => updateBatch slot f s

/-- R28: an actual amount is recorded. -/
def writeActual (m : Mixer) (c : Component) (v : Nat) (s : State) : State :=
  updateOwnBatch m (fun r => { r with actuals := r.actuals.put c v }) s

/-- The targets of the sequencer's batch. -/
def targetOf (m : Mixer) (c : Component) (s : State) : Nat :=
  match batchOf m s with
  | none => 0
  | some (_, r) => r.targets.of c

/-- The class of the sequencer's batch, as it stands (R2). -/
def classOf (m : Mixer) (s : State) : Option ClassRecord :=
  match batchOf m s with
  | none => none
  | some (_, r) => r.cls.bind s.cls

/-- A field of the class of the sequencer's batch; 0 where the class is UNDEFINED, which the in-use rule (R4) rules out
while a batch runs (log 37). -/
def classField (m : Mixer) (f : ClassRecord → Nat) (s : State) : Nat := ((classOf m s).map f).getD 0

/-- N of the sequencer's batch: the length of its reservation list (R27). -/
def castCount (m : Mixer) (s : State) : Nat :=
  match batchOf m s with
  | none => 0
  | some (_, r) => r.reservation.length

/-- Casts poured of the sequencer's batch. -/
def poured (m : Mixer) (s : State) : Nat :=
  match batchOf m s with
  | none => 0
  | some (_, r) => r.poured

/-- R57: the stepped flag of the sequencer's batch. -/
def stepped (m : Mixer) (s : State) : Bool :=
  match batchOf m s with
  | none => false
  | some (_, r) => r.stepped

/-- The batch ID and the order number a mixer's notices carry. -/
def batchId (m : Mixer) (s : State) : Nat := ((s.seq m).batch.map (·.id)).getD 0

def orderNumber (m : Mixer) (s : State) : Option Nat := (batchOf m s).bind fun x => x.2.order

/-- R54: the contents of a mixer; 0 where no batch record stands to reckon them from (log 52). -/
def contents (m : Mixer) (s : State) : Nat :=
  match batchOf m s with
  | none => 0
  | some (_, r) => r.actuals.total - (s.seq m).fillsTotal

/-! ### Drive, deliveries, marker -/

/-- R36: the drive command, sent each time it changes. -/
def setDrive (m : Mixer) (d : Drive) (s : State) : State :=
  if (s.seq m).drive = d then s else withSeq m (fun q => { q with drive := d }) (emit (.drive m d) s)

/-- Table 3.2: the time limit of a delivery request. -/
def channelLimit : Channel → Option Nat
  | .ash => some Config.ashLimit
  | .weighing => some Config.scaleLimit
  | .discharge => some Config.scaleLimit
  | .chelant => some Config.meterLimit
  | .water => some Config.meterLimit
  | .reject => none

/-- R40: a delivery request is issued. -/
def deliver (m : Mixer) (ch : Channel) (amount : Nat) (s : State) : State :=
  withSeq m
    (fun q => { q with delivery := some { channel := ch, amount := amount, limit := (channelLimit ch).map (ahead s) } })
    (emit (.deliver m ch amount) s)

/-- R39: the marker is rewritten with a stage. -/
def markStage (m : Mixer) (st : Stage) (s : State) : State :=
  match (s.seq m).batch with
  | none => s
  | some r => writeMarker m (some { slot := r.slot, batch := r.id, stage := st }) s

/-- The mixer takes a state, a stage of it, and no saved stage (R36, R37 (2), (11)). -/
def takeState (m : Mixer) (st : MixerState) (stage : Option Stage) (s : State) : State :=
  withSeq m (fun q => { q with state := st, stage := stage, saved := none }) s

/-- A component is begun with dosed-so-far 0 and its top-up mark clear (R37 (5), (6)). -/
def beginComponent (m : Mixer) (c : Component) (s : State) : State :=
  withSeq m (fun q => { q with component := some c, dosed := 0, topUp := false }) s

/-- R43: the entry into stage ASH. -/
def enterAsh (m : Mixer) (s : State) : State :=
  deliver m .ash (targetOf m .ash s)
    (setDrive m .agitate (beginComponent m .ash (markStage m .ash (takeState m .charging (some .ash) s))))

/-- R27 (5): the sequencer is given a batch. -/
def giveBatch (m : Mixer) (slot id : Nat) (s : State) : State :=
  enterAsh m (withSeq m (fun q => { q with batch := some { slot := slot, id := id }, cementInDrum := 0, fillsTotal := 0 }) s)

end Sys2Proof.Machine
end

