-- ==== Sys2Proof/Machine/Sealing.lean ====
section
/-! DEFINITION. What a bay holds, its sealing up to SEALED, and its entry into FILLING (R106, R108, R109, R111, R112): the part of chapter 6 that the start of an order calls on (R27). The Dispatcher stands in Dispatcher.lean and the rest of the Bay Controller in Bays.lean. -/

namespace Sys2Proof.Machine

/-! ### What a bay holds -/

/-- A position of the bay satisfies a test. -/
def bayAny (f : Entry → Bool) (b : Nat) (s : State) : Bool := (bayPositions b).any fun p => f (s.entry p)

/-- How many positions of the bay satisfy a test. -/
def bayCount (f : Entry → Bool) (b : Nat) (s : State) : Nat := ((bayPositions b).filter fun p => f (s.entry p)).length

def Entry.isFree : Entry → Bool
  | .free => true
  | _ => false

def Entry.isUnusable : Entry → Bool
  | .unusable => true
  | _ => false

def Entry.isNonexistent : Entry → Bool
  | .nonexistent => true
  | _ => false

def Entry.isReserved : Entry → Bool
  | .reserved _ _ => true
  | _ => false

def Entry.isOccupied (e : Entry) : Bool := e.cast?.isSome

/-- The entry holds a cast in a state. -/
def Entry.inState (st : CastState) (e : Entry) : Bool := e.cast?.any fun c => decide (c.state = st)

/-- The bay holds a RESERVED position. -/
def bayReserved (b : Nat) (s : State) : Bool := bayAny Entry.isReserved b s

/-- The bay holds a cast part. -/
def bayOccupied (b : Nat) (s : State) : Bool := bayAny Entry.isOccupied b s

/-- R108, R110: the bay holds a RESERVED position or a TRANSIT cast. -/
def bayAwaits (b : Nat) (s : State) : Bool := bayReserved b s || bayAny (Entry.inState .transit) b s

/-! ### State changes -/

/-- R98: the bay state is written each time it changes. -/
def setBayState (b : Nat) (st : BayState) (s : State) : State := writeSettings b { s.settings b with state := st } s

/-- The step, the deadline and the ready-wanted mark are cleared. -/
def clearStep (b : Nat) (s : State) : State :=
  withBay b (fun c => { c with step := none, deadline := none, readyWanted := false }) s

/-- A step is taken, with a deadline. -/
def takeStep (b : Nat) (st : SeqStep) (seconds : Nat) (s : State) : State :=
  withBay b (fun c => { c with step := some st, deadline := some (ahead s seconds) }) s

/-! ### Sealing -/

/-- R112: the entry into step CONDITION. -/
def enterCondition (b : Nat) (s : State) : State :=
  let settle := (s.settings b).settle
  let t := setConditioning b true s
  if settle = 0 then
    withBay b (fun c => { c with readyWanted := true }) (takeStep b .condition Config.readyLimit t)
  else takeStep b .condition settle t

/-- R111: the entry into step LOCK. -/
def enterLock (b : Nat) (s : State) : State :=
  let t := takeStep b .lock Config.lockStepLimit (actuate b .lock s)
  if (t.bay b).latch = .engaged then enterCondition b t else t

/-- R111: the entry into SEALING, at step CLOSE. -/
def enterSealing (b : Nat) (s : State) : State :=
  let t := takeStep b .close Config.doorStepLimit (actuate b .doorClose (setBayState b .sealing s))
  if (t.bay b).door = .closed then enterLock b t else t

/-- R112: the completion of step CONDITION, by its ready flag or settle time, or (`slow`) by the 3600 s wait. -/
def sealDone (b : Nat) (slow : Bool) (s : State) : State :=
  raise (if slow then .conditioningSlow b s.clock else .baySealed b s.clock) (setBayState b .sealed (clearStep b s))

/-- R108 (1): a seal request that is taken. -/
def sealRequest (b : Nat) (s : State) : State :=
  if bayAwaits b s then setBayState b .sealPending s else enterSealing b s

/-- R109: the auto-seal test. -/
def autoSealTest (b : Nat) (s : State) : State :=
  if (s.settings b).autoSeal ∧ s.bayState b = .filling ∧ bayAny Entry.isFree b s = false then sealRequest b s else s

/-! ### The entry into FILLING -/

/-- R106: the entry into FILLING, before the scan it calls for and its auto-seal test. -/
def enterFilling (b : Nat) (s : State) : State := actuate b .doorOpen (setBayState b .filling s)

/-- R27 (4), R106, R109: a position of the bay has become RESERVED at the start of an order. The scan that an entry into
FILLING calls for is the one that follows the whole start (R27); the auto-seal test is made at the entry (log 8). -/
def bayBooked (b : Nat) (s : State) : State :=
  match s.bayState b with
  | .empty => autoSealTest b (enterFilling b s)
  | .filling => autoSealTest b s
  | _ => s

end Sys2Proof.Machine
end

