-- ==== Sys2Proof/Machine/Dispatcher.lean ====
section
/-! DEFINITION. The Dispatcher (R24 to R29): which order a scan starts, and the start. -/

namespace Sys2Proof.Machine

/-! ### The Dispatcher -/

def mixerIdle (m : Mixer) (s : State) : Bool := decide ((s.seq m).state = .idle)

/-- R25: the mixer on which an order would start. -/
def mixerFor (c : MixerChoice) (s : State) : Option Mixer :=
  match c with
  | .a => if mixerIdle .a s then some .a else none
  | .b => if mixerIdle .b s then some .b else none
  | .any => if mixerIdle .a s then some .a else if mixerIdle .b s then some .b else none

/-- R29: the lowest-numbered free slot. -/
def freeSlotNumber (s : State) : Option Nat := allSlots.find? fun i => (s.batch i).isNone

/-- R26 (1), (2): the walk does not skip the bay. -/
def bayOpen (b : Nat) (s : State) : Bool :=
  (match s.bayState b with
    | .empty => true
    | .filling => true
    | _ => false) &&
  (match (s.aligner b).state with
    | .syncing => true
    | .locked => true
    | _ => false)

/-- R26: the FREE positions of a bay in its fill order. -/
def freeInOrder (b : Nat) (s : State) : List Nat := (s.settings b).fillOrder.filter fun p => (s.entry p).isFree

/-- R26: the bays of an order: its bay list, or the placement list of its class. -/
def bayListOf (o : Order) (s : State) : List Nat :=
  match o.bays with
  | some l => l
  | none => ((s.cls o.cls).map (·.placement)).getD []

/-- R26: the positions that the reservation walk holds, up to N. -/
def walk (o : Order) (s : State) : List Nat :=
  (((bayListOf o s).filter fun b => bayOpen b s).flatMap fun b => freeInOrder b s).take o.count

/-- R29: the next batch ID: the first after the counter that no slot holds. -/
def nextBatchId (s : State) : Nat :=
  ((List.range 33).map (idAfter s.store.batchCounter Config.batchIdMax)).find?
    (fun i => allSlots.all fun k => (s.batch k).all fun r => decide (r.id ≠ i))
    |>.getD (idAfter s.store.batchCounter Config.batchIdMax 0)

/-- R28: the record of a batch at its start. -/
def firstRecord (o : Order) (m : Mixer) (id : Nat) (ps : List Nat) (clock : Nat) : BatchRecord :=
  { id := id, order := some o.number, lot := some o.lot, cls := some o.cls, mixer := some m, targets := o.targets,
    mass := o.mass, actuals := { ash := none, cement := none, chelant := none, water := none }, reservation := ps,
    poured := 0, rejected := 0, doseDeviation := false, stepped := o.step, damaged := false, start := some clock,
    endTime := none, endCause := none, live := 0 }

/-- R27 (4): the bays of a reservation, each once, in the order of their first reserved positions; the rule gives the bays
no order (log 42). -/
def baysOf (ps : List Nat) : List Nat := (ps.map bayOf).eraseDups

/-- R27: the start of an order. The batch ID counter is written before the new batch record; R29 writes the counter at the
assignment and names no order of the two (log 42). -/
def startOrder (o : Order) (m : Mixer) (slot : Nat) (ps : List Nat) (s : State) : State :=
  let id := nextBatchId s
  let t := { s with orders := s.orders.filter fun x => decide (x.number ≠ o.number) }
  let t := writeBatch slot (some (firstRecord o m id ps t.clock)) (write (.batchCounter id) t)
  let t := ps.foldl (fun u p => writeEntry p (.reserved slot id) u) t
  let t := (baysOf ps).foldl (fun u b => bayBooked b u) t
  raise (.orderStarted o.number id slot m ps) (giveBatch m slot id t)

/-- R24: an order meets all three conditions, on a mixer, in a slot, with a reservation. -/
def startable (o : Order) (s : State) : Option (Mixer × Nat × List Nat) :=
  match mixerFor o.choice s, freeSlotNumber s with
  | some m, some slot => if (walk o s).length = o.count then some (m, slot, walk o s) else none
  | _, _ => none

/-- The first order of a list that meets the conditions. -/
def firstStartable (s : State) : List Order → Option (Order × Mixer × Nat × List Nat)
  | [] => none
  | o :: rest => match startable o s with
    | some (m, slot, ps) => some (o, m, slot, ps)
    | none => firstStartable s rest

/-- R24: scans, each starting one order, until one starts none. Each start removes an order, so as many scans as there
are orders are enough. -/
def scans : Nat → State → State
  | 0, s => s
  | n + 1, s => match firstStartable s s.orders with
    | none => s
    | some (o, m, slot, ps) => scans n (startOrder o m slot ps s)

/-- R24: the Dispatcher runs, at the event that calls it and against the state as it then stands (log 8). -/
def dispatch (s : State) : State := scans s.orders.length s

end Sys2Proof.Machine
end

