-- ==== Sys2Proof/Machine/Bays.lean ====
section
/-! DEFINITION. The Bay Controller (chapter 6) beyond Sealing.lean: what a bay is told, the emptying and SEAL_PENDING tests, the seal failure, unsealing, breach and button, standing actuations, binding, and the bay requests. The taking of flags stands in Stations.lean. -/

namespace Sys2Proof.Machine

/-! ### Emptying (R107, R110) -/

/-- R107: the entry into EMPTY, which runs the Dispatcher. -/
def enterEmpty (b : Nat) (s : State) : State :=
  dispatch (raise (.bayEmpty b (s.bayState b)) (actuate b .doorClose (setBayState b .empty s)))

/-- R107: the emptying test. -/
def emptyTest (b : Nat) (s : State) : State :=
  match s.bayState b with
  | .filling => if bayReserved b s || bayOccupied b s then s else enterEmpty b s
  | .sealPending => if bayReserved b s || bayOccupied b s then s else enterEmpty b s
  | .unloading => if bayReserved b s || bayOccupied b s then s else enterEmpty b s
  | _ => s

/-- R110: the test of a SEAL_PENDING bay. -/
def sealPendingTest (b : Nat) (s : State) : State :=
  match s.bayState b with
  | .sealPending =>
    if bayAwaits b s then s else if bayOccupied b s then enterSealing b s else enterEmpty b s
  | _ => s

/-! ### What a bay is told (R144 (2)) -/

/-- R106: a cast part has arrived in the bay: the entry into FILLING runs the Dispatcher, and the auto-seal test is made
then. -/
def bayArrival (b : Nat) (s : State) : State :=
  match s.bayState b with
  | .empty => autoSealTest b (dispatch (enterFilling b s))
  | .filling => autoSealTest b s
  | _ => s

/-- R93, R163: a cast of the bay has become CURING. -/
def bayPlaced (b : Nat) (s : State) : State := sealPendingTest b s

/-- R107, R110: a position of the bay has lost a reservation or a cast part. -/
def bayLost (b : Nat) (s : State) : State := sealPendingTest b (emptyTest b s)

/-! ### The seal failure -/

/-- R113: the step deadline of CLOSE or LOCK has run out. The entry into FILLING runs the Dispatcher, and the tests of R107
and R109 are made then. -/
def sealFail (b : Nat) (st : SeqStep) (s : State) : State :=
  let c := s.bay b
  let t := setConditioning b false s
  let t := if st = .lock then actuate b .unlock t else t
  let t := clearStep b (actuate b .doorOpen t)
  let t := raise (.sealFailed b st c.door c.latch) (setBayState b .filling t)
  autoSealTest b (emptyTest b (dispatch t))

/-! ### Unsealing -/

/-- R116: the entry into UNLOADING. -/
def enterUnloading (b : Nat) (s : State) : State :=
  emptyTest b
    (raise (.bayUnloading b (bayCount Entry.isOccupied b s)) (setBayState b .unloading (clearStep b s)))

/-- R116: the entry into step OPEN. -/
def enterOpen (b : Nat) (s : State) : State :=
  let t := takeStep b .doorOpen Config.doorStepLimit (actuate b .doorOpen s)
  if (t.bay b).door = .opened then enterUnloading b t else t

/-- R116: the entry into step UNLOCK. -/
def enterUnlock (b : Nat) (s : State) : State :=
  let t := takeStep b .unlock Config.lockStepLimit (actuate b .unlock s)
  if (t.bay b).latch = .released then enterOpen b t else t

/-- R115: the entry into UNSEALING at step COOL. -/
def enterCool (b : Nat) (s : State) : State :=
  let t := takeStep b .cool (s.settings b).coolDown (setConditioning b false (setBayState b .unsealing s))
  if (s.settings b).coolDown = 0 then enterUnlock b t else t

/-- R116: the unseal has failed in a step. -/
def unsealFail (b : Nat) (st : SeqStep) (s : State) : State :=
  let c := s.bay b
  raise (.unsealFailed b st c.door c.latch c.ready) (setBayState b .breached (clearStep b s))

/-! ### Breach -/

/-- R117 (4): the casts that take the breached flag: every cast that is not TRANSIT (log 32). -/
def breachable (e : Entry) : Bool := e.isOccupied && !e.inState .transit

/-- R117 (4) for one position. -/
def breachAt (p : Nat) (s : State) : State :=
  if breachable (s.entry p) then updateCast p (fun c => { c with flags := { c.flags with breached := true } }) s else s

/-- R117: a breach. The entries of (4) are written in rising order of position (log 42). -/
def breach (b : Nat) (s : State) : State :=
  let left := s.bayState b
  let step := (s.bay b).step
  let t := if (s.bay b).conditioning then setConditioning b false s else s
  let t := setBayState b .breached (clearStep b t)
  let n := bayCount breachable b t
  raise (.bayBreached b left step t.clock n) ((bayPositions b).foldl (fun u p => breachAt p u) t)

/-- R117: the bay is where a RELEASED latch is a breach. -/
def breachPlace (st : BayState) (step : Option SeqStep) : Bool :=
  match st, step with
  | .sealed, _ => true
  | .sealing, some .condition => true
  | .unsealing, some .cool => true
  | _, _ => false

/-- R118: a press of the button. -/
def buttonPress (b : Nat) (s : State) : State :=
  match s.bayState b with
  | .filling => sealRequest b s
  | .sealed => raise (.unloadRequest b s.clock) s
  | st => raise (.button b st (s.bay b).step) s

/-! ### Binding and standing actuations -/

/-- R104, Table 6.3. -/
def standing (b : Nat) (s : State) : State :=
  let t := actuate b (.setPeriod (s.settings b).period) s
  match s.bayState b with
  | .absent => s
  | .empty => setConditioning b false (actuate b .doorClose t)
  | .filling => setConditioning b false (actuate b .doorOpen t)
  | .sealPending => setConditioning b false (actuate b .doorOpen t)
  | .sealed => setConditioning b true t
  | .unloading => setConditioning b false (actuate b .doorOpen t)
  | .breached => setConditioning b false t
  | .sealing => setConditioning b (decide ((s.bay b).step = some .condition)) t
  | .unsealing => setConditioning b false t

/-- R100, R105: a NONEXISTENT position becomes FREE; the scan that this calls for is made by the caller. -/
def existAt (p : Nat) (s : State) : State := if (s.entry p).isNonexistent then writeEntry p .free s else s

/-- R105: the bay leaves ABSENT. Its standing actuations and the scan that EMPTY calls for come after it (R104, R192). The
entries are written in rising order of position (log 42), between the default settings and the new bay state (log 47). BAY
BREACHED carries the clock as it stands here, which in recovery is before R191 (1) restarts it (log 56). -/
def leaveAbsent (b : Nat) (s : State) : State :=
  let t := writeSettings b (BaySettings.default b .absent) s
  let t := (bayPositions b).foldl (fun u p => existAt p u) t
  let t := withBay b (fun c => { c with door := .unknown, latch := .unknown, ready := .unknown }) t
  if bayReserved b t || bayOccupied b t then
    raise (.bayBreached b .absent none t.clock 0) (setBayState b .breached t)
  else setBayState b .empty t

/-- R24 (3): a position made FREE runs the Dispatcher. -/
def dispatchIf (freed : Bool) (s : State) : State := if freed then dispatch s else s

/-! ### Bay requests -/

/-- R108: BAY SEAL. -/
def baySeal (b : Nat) (s : State) : State × Reply :=
  if b < 1 ∨ 12 < b then (s, .refused .range .empty)
  else match s.bayState b with
    | .filling => (sealRequest b s, .taken)
    | .breached => (sealRequest b s, .taken)
    | .sealing => (s, .refused .busy .empty)
    | .unsealing => (s, .refused .busy .empty)
    | _ => (s, .refused .state .empty)

/-- R114: BAY UNSEAL. -/
def bayUnseal (b : Nat) (s : State) : State × Reply :=
  if b < 1 ∨ 12 < b then (s, .refused .range .empty)
  else match s.bayState b with
    | .sealed => (enterCool b s, .taken)
    | .breached => (enterUnlock b (setBayState b .unsealing s), .taken)
    | .sealing => (s, .refused .busy .empty)
    | .unsealing => (s, .refused .busy .empty)
    | _ => (s, .refused .state .empty)

/-- Table 6.2: the default fill order of a geometry. -/
def defaultFillOrder (b levels slots : Nat) : List Nat :=
  (List.range levels).flatMap fun l => (List.range slots).map fun k => (b - 1) * 24 + l * 6 + k + 1

/-- R100 (2): the ranges of Table 6.2. -/
def bayRanges (r : BayRequest) : Bool :=
  decide (1 ≤ r.levels ∧ r.levels ≤ 4) && decide (1 ≤ r.slots ∧ r.slots ≤ 6) &&
  decide (10 ≤ r.period ∧ r.period ≤ 600) && decide (2 ≤ r.cutLimit ∧ r.cutLimit ≤ 60) &&
  decide (r.settle ≤ 3600) && decide (r.coolDown ≤ 600)

/-- R100 (3): the fill order names every existing position exactly once and no other. -/
def fillOrderGood (r : BayRequest) : Bool :=
  match r.fillOrder with
  | none => true
  | some l =>
    let all := defaultFillOrder r.bay r.levels r.slots
    decide (l.length = all.length) && all.all (fun p => l.contains p)

/-- R100: what the new geometry makes of one position. -/
def geometryAt (exist : List Nat) (p : Nat) (s : State) : State :=
  if exist.contains p then existAt p s
  else if (s.entry p).isFree || (s.entry p).isUnusable then writeEntry p .nonexistent s else s

/-- R141: a running late timer is restarted with the period now in force. -/
def restartLate (b : Nat) (s : State) : State :=
  let p := (s.settings b).period
  withAligner b (fun a => { a with lateTimer := a.lateTimer.map fun _ => ahead s (p + p / 2) }) s

/-- R100: BAY SET. The positions change in one operation, their entries being written in rising order of position (log 42),
and those that became FREE then run the Dispatcher. -/
def baySet (r : BayRequest) (s : State) : State × Reply :=
  if r.bay < 1 ∨ 12 < r.bay then (s, .refused .range .empty)
  else if bayRanges r = false then (s, .refused .range .empty)
  else if fillOrderGood r = false then (s, .refused .range .empty)
  else if s.bayState r.bay ≠ .empty ∨ bayReserved r.bay s then (s, .refused .inUse .empty)
  else
    let all := defaultFillOrder r.bay r.levels r.slots
    let t := writeSettings r.bay
      { levels := r.levels, slots := r.slots, fillOrder := r.fillOrder.getD all, period := r.period,
        cutLimit := r.cutLimit, autoSeal := r.autoSeal, settle := r.settle, coolDown := r.coolDown, state := .empty } s
    let t := (bayPositions r.bay).foldl (fun u p => geometryAt all p u) t
    let t := dispatchIf (all.any fun p => (s.entry p).isNonexistent) t
    (restartLate r.bay (actuate r.bay (.setPeriod r.period) t), .done .empty)

/-- R101: BAY MARK. -/
def bayMark (p status : Nat) (s : State) : State × Reply :=
  match markOfCode status with
  | none => (s, .refused .range .empty)
  | some want =>
    if p < 1 ∨ 288 < p then (s, .refused .range .empty)
    else if s.bayState (bayOf p) = .absent then (s, .refused .state .empty)
    else match s.entry p with
      | .nonexistent => (s, .refused .range .empty)
      | .reserved _ _ => (s, .refused .inUse .empty)
      | .occupied _ => (s, .refused .inUse .empty)
      | .free => if want = .free then (s, .done .empty)
          else (autoSealTest (bayOf p) (writeEntry p .unusable s), .done .empty)
      | .unusable => if want = .unusable then (s, .done .empty) else (dispatch (writeEntry p .free s), .done .empty)

end Sys2Proof.Machine
end

