-- ==== Sys2Proof/Machine/Orders.lean ====
section
/-! DEFINITION. The end of a batch and the freeing of its slot (R30 to R33), what is in use, the order requests (R19 to R23) and QUERY BATCH (R34). -/

namespace Sys2Proof.Machine

/-! ### The Batch Table (R30 to R33) -/

/-- R33: a slot is freed, which runs the Dispatcher. -/
def freeSlot (slot : Nat) (s : State) : State := dispatch (writeBatch slot none s)

/-- R33: the check of a slot for freeing. -/
def checkSlot (slot : Nat) (s : State) : State :=
  match s.batch slot with
  | none => s
  | some r => if r.endTime.isSome ∧ r.live = 0 then freeSlot slot s else s

/-- R32, R144 for one position: the entry is written, its bay is told, and the Dispatcher runs. -/
def releaseAt (slot id p : Nat) (s : State) : State :=
  match s.entry p with
  | .reserved sl i => if sl = slot ∧ i = id then dispatch (bayLost (bayOf p) (writeEntry p .free s)) else s
  | _ => s

/-- The positions a release goes through (R32): the reservation list; for a damaged placeholder, whose list is lost,
every position (R75 (1)). -/
def releaseList (r : BatchRecord) : List Nat := if r.damaged then allPositions else r.reservation

/-- R32: the release of a batch's reservations. -/
def release (slot : Nat) (r : BatchRecord) (s : State) : State :=
  (releaseList r).foldl (fun t p => releaseAt slot r.id p t) s

/-- R31: the end of a batch. -/
def batchEnd (slot : Nat) (cause : EndCause) (s : State) : State :=
  match s.batch slot with
  | none => s
  | some r =>
    let t := writeBatch slot (some { r with endTime := some s.clock, endCause := some cause }) s
    let t := release slot r t
    checkSlot slot (raise (.orderEnded r.order r.id cause r.poured r.rejected) t)

/-- R30: the live cast count of a batch named by slot and batch ID falls by one, and the slot is checked (R33). -/
def castGone (slot id : Nat) (s : State) : State :=
  match s.batch slot with
  | none => s
  | some r => if r.id = id then checkSlot slot (writeBatch slot (some { r with live := r.live - 1 }) s) else s

/-! ### In use -/

/-- A record holds a running batch (R20). -/
def BatchRecord.running (r : BatchRecord) : Bool := r.endTime.isNone

/-- How many running batches satisfy a test. -/
def countRunning (f : BatchRecord → Bool) (s : State) : Nat :=
  (allSlots.filter fun k => (s.batch k).any fun r => r.running && f r).length

/-- How many queued orders satisfy a test. -/
def countQueued (f : Order → Bool) (s : State) : Nat := (s.orders.filter f).length

/-! ### Order requests -/

/-- R20 check 5 for a list of bays: at most four, each 1..12, all different. -/
def bayListGood (l : List Nat) : Bool :=
  decide (l.length ≤ 4) && l.all (fun b => decide (1 ≤ b ∧ b ≤ 12)) && decide l.Nodup

/-- Table 10.7: the bay list of the request: the first `bayCount` of its bay bytes. -/
def requestedBays (r : OrderRequest) : List Nat := r.bayBytes.take r.bayCount

/-- R20 check 5. -/
def orderRanges (r : OrderRequest) : Bool :=
  decide (r.order ≠ 0) && decide (1 ≤ r.count ∧ r.count ≤ 24) && (choiceOfCode r.mixerChoice).isSome &&
  decide (r.bayCount ≤ 4) && bayListGood (requestedBays r)

/-- The lot with a number. -/
def findLot (n : Nat) (s : State) : Option (Nat × Lot) :=
  (List.range' 1 8).findSome? fun i => match s.lot i with
    | some l => if l.number = n then some (i, l) else none
    | none => none

/-- R20 check 3: the OPEN lot with a number. -/
def openLot (n : Nat) (s : State) : Option Lot :=
  match findLot n s with
  | some (_, l) => if l.state = .opened then some l else none
  | none => none

/-- R18: the order record of a request. -/
def orderRecord (r : OrderRequest) (c : MixerChoice) (d : Doses) : Order :=
  { number := r.order, lot := r.lot, cls := r.cls, count := r.count, choice := c,
    bays := if requestedBays r = [] then none else some (requestedBays r), step := r.step, targets := d.targets, mass := d.mass }

/-- R20 check 2. -/
def orderInUse (n : Nat) (s : State) : Bool :=
  s.orders.any (fun o => decide (o.number = n)) || decide (0 < countRunning (fun r => decide (r.order = some n)) s)

/-- R20, R21: ORDER POST. -/
def orderPost (r : OrderRequest) (s : State) : State × Reply :=
  if Config.orderQueueSize ≤ s.orders.length then (s, .refused .full .empty)
  else if orderInUse r.order s then (s, .refused .duplicate .empty)
  else match openLot r.lot s, s.cls r.cls, choiceOfCode r.mixerChoice with
    | none, _, _ => (s, .refused .noLot .empty)
    | some _, none, _ => (s, .refused .noClass .empty)
    | some _, some _, none => (s, .refused .range .empty)
    | some l, some c, some choice =>
      if orderRanges r = false then (s, .refused .range .empty)
      else
        let d := computeDoses r.count c l.moisture l.band
        match doseRefusal d with
        | some x => (s, .refused x (.targets d))
        | none => (dispatch { s with orders := s.orders ++ [orderRecord r choice d] }, .done (.targets d))

/-- R22: ORDER WITHDRAW. -/
def orderWithdraw (n : Nat) (s : State) : State × Reply :=
  match s.orders.find? fun o => decide (o.number = n) with
  | some o => ({ s with orders := s.orders.filter fun x => decide (x.number ≠ n) }, .done (.order o))
  | none =>
    if 0 < countRunning (fun r => decide (r.order = some n)) s then (s, .refused .running .empty)
    else (s, .refused .noSuch .empty)

/-- R23: the lines of QUERY QUEUE, from a place. -/
def queueLines (s : State) : Nat → List Order → List QueueLine
  | _, [] => []
  | k, o :: rest =>
    { place := k, order := o, mixer := mixerFor o.choice s, slotFree := (freeSlotNumber s).isSome,
      positions := (walk o s).length } :: queueLines s (k + 1) rest

/-- R34: the line of an occupied slot. -/
def batchLine (slot : Nat) (r : BatchRecord) : BatchLine :=
  { slot := slot, id := r.id, order := r.order, mixer := r.mixer, ended := r.endTime.isSome, endCause := r.endCause,
    poured := r.poured, live := r.live, damaged := r.damaged }

/-- R34 (1): the positions of the reservation list still RESERVED for the batch. -/
def stillReserved (slot : Nat) (r : BatchRecord) (s : State) : Nat :=
  (r.reservation.filter fun p => decide (s.entry p = .reserved slot r.id)).length

/-- R34: QUERY BATCH. -/
def queryBatch (id : Nat) (s : State) : State × Reply :=
  if id = 0 then
    (s, .done (.batches (allSlots.filterMap fun k => (s.batch k).map (batchLine k))))
  else match allSlots.findSome? fun k => match s.batch k with
      | some r => if r.id = id then some (k, r) else none
      | none => none with
    | some (k, r) => (s, .done (.batch k r (stillReserved k r s)))
    | none => (s, .refused .noSuch .empty)

end Sys2Proof.Machine
end

