-- ==== Sys2Proof/Machine/Pour.lean ====
section
/-! DEFINITION. The Pour Stations, the Transit Queue and the Shuttle Controller (chapter 5), with what a pour calls on in its sequencer: STEP_WAIT, the end of the POUR stage, DISCHARGING and IDLE (R55 to R59). -/

namespace Sys2Proof.Machine

/-! ### The shuttle -/

/-- R92 (1): the placement request. -/
def shuttlePlace (p : Nat) (s : State) : State :=
  emit (.place p) { s with shuttle := { state := .moving, doorWait := none } }

/-- R92: the shuttle acts on the head by the door flag of its bay; UNKNOWN counts as closed (R102). The door wait's time is
one of the oscillator, which CLOCK SET does not move (log 2). -/
def shuttleTake (s : State) : State :=
  match s.transit with
  | [] => s
  | e :: _ =>
    if (s.bay (bayOf e.position)).door = .opened then shuttlePlace e.position s
    else { s with shuttle := { state := .waitingDoor, doorWait := some (ahead s Config.doorWaitLimit) } }

/-- R92: an IDLE shuttle takes a head whose tag mark is written. -/
def shuttleCheck (s : State) : State :=
  match s.shuttle.state, s.transit with
  | .idle, e :: _ => if e.written then shuttleTake s else s
  | _, _ => s

/-- R92 (2): the door flag of a bay shows the door open to a shuttle that waits at it. -/
def shuttleDoor (b : Nat) (s : State) : State :=
  match s.shuttle.state, s.transit with
  | .waitingDoor, e :: _ =>
    if bayOf e.position = b ∧ (s.bay b).door = .opened then shuttlePlace e.position s else s
  | _, _ => s

/-- R94: a placement has failed. -/
def shuttleFail (why : ShuttleReason) (s : State) : State :=
  let t := { s with shuttle := { state := .faulted, doorWait := none } }
  match s.transit with
  | [] => t
  | e :: _ => raise (.shuttleFault e.cast e.position (bayOf e.position) why) t

/-! ### Transit space and mold calls -/

/-- R82: the station calls a mold. The call's time is one of the oscillator, which CLOCK SET does not move (log 2). -/
def callMold (m : Mixer) (s : State) : State :=
  withStation m (fun x => { x with step := .mold, moldCall := some (ahead s Config.moldCallLimit) }) (emit (.moldCall m) s)

/-- The number of held place claims. -/
def claims (s : State) : Nat := s.stations.a.claim.toNat + s.stations.b.claim.toNat

/-- R80: a place is free. -/
def placeFree (s : State) : Bool := decide (s.transit.length + claims s < Config.transitPlaces)

/-- R80: a station is given a place, and goes on to MOLD. -/
def givePlace (m : Mixer) (s : State) : State :=
  callMold m (withStation m (fun x => { x with claim := true, spaceWait := none }) s)

/-- R80: a place has become free. -/
def placeFreed (s : State) : State :=
  match s.spaceList with
  | [] => s
  | m :: rest => if placeFree s then givePlace m { s with spaceList := rest } else s

/-- R80: a station enters step SPACE. The wait's time is one of the oscillator, which CLOCK SET does not move (log 2). -/
def enterSpace (m : Mixer) (s : State) : State :=
  if placeFree s ∧ s.spaceList = [] then givePlace m s
  else
    withStation m (fun x => { x with step := .space, spaceWait := some (ahead s Config.spaceWaitLimit) })
      { s with spaceList := s.spaceList ++ [m] }

/-! ### The stop of a cycle -/

/-- R66, R90 (3): what stands at the station leaves it. -/
def clearGate (m : Mixer) (s : State) : State :=
  let x := s.station m
  let t := if x.moldCall.isSome then emit (.moldCallWithdrawn m) s else s
  if x.step = .read then emit (.moldPassedOn m) t else t

/-- R90 (1), (2): the station's claim and its place in the waiting list are given up. A fill in progress keeps the claim of
its cast: R62 and R66 let no stop come during one (log 37). -/
def giveUpPlace (m : Mixer) (s : State) : State :=
  let x := s.station m
  let t := withStation m (fun x => { x with claim := x.claim && x.fill.isSome, spaceWait := none })
    { s with spaceList := s.spaceList.filter fun x => decide (x ≠ m) }
  if x.claim && x.fill.isNone then placeFreed t else t

/-- R66, R90: the station's cycle is stopped. The consecutive-unreadable count and a tag write are kept. The call is
withdrawn or the mold passed on first, and the claim is released last; the rules order neither (log 43). -/
def stopCycle (m : Mixer) (s : State) : State :=
  giveUpPlace m
    (withStation m (fun x =>
        { x with
          step := if x.tagWrite.isSome then .write else .none
          castIndex := none, moldCall := none, mold := none, readAttempts := 0 })
      (clearGate m s))

/-! ### STEP_WAIT, DISCHARGING and IDLE -/

/-- R57: the entry into STEP_WAIT after a stage. -/
def stepWait (m : Mixer) (completed : Stage) (saved : Saved) (s : State) : State :=
  let t := withSeq m (fun q => { q with state := .stepWait, stage := none, component := none, saved := some saved }) s
  raise (.stepWait m (batchId m s) completed saved) (setDrive m .agitate t)

/-- R59 (3), R75 (3), (4), R37, R65: the entry into IDLE, which runs the Dispatcher (R24 (2)). -/
def enterIdle (m : Mixer) (s : State) : State :=
  let t := withSeq m (fun q =>
    { q with
      state := .idle, stage := none, batch := none, component := none, cementInDrum := 0, delivery := none,
      potLife := .notStarted, mixTimer := none, saved := none, pendingHold := none, pendingExpiry := false, hold := none,
      lockout := none, blocked := false, fillsTotal := 0, dischargeCause := none }) s
  dispatch (writeMarker m none (setDrive m .stopped (withStation m (fun x => { x with unreadable := 0 }) t)))

/-- R59: the entry into DISCHARGING, once any delivery has been stopped. `cause` is what the batch will end with. -/
def enterDischarging (m : Mixer) (cause : Option EndCause) (amount : Nat) (s : State) : State :=
  let t := withSeq m (fun q => { q with mixTimer := none, saved := none, pendingHold := none, pendingExpiry := false }) s
  let t := stopCycle m t
  let t := withSeq m (fun q =>
    { q with state := .discharging, stage := none, component := none, potLife := .stopped, dischargeCause := cause }) t
  deliver m .reject amount (markStage m .discharging (setDrive m .agitate t))

/-- R56 (2), (3): the batch ends, and the drum is emptied or the mixer is IDLE. The contents that (3) tests are reckoned
before the batch end of (2), which may free the record they are reckoned from (R33, log 43). -/
def finishBatch (m : Mixer) (s : State) : State :=
  let cause := if poured m s = castCount m s then EndCause.complete else .shortBatch
  let left := contents m s
  let t := withSeq m (fun q => { q with potLife := .stopped }) s
  let t := match batchOf m s with
    | none => t
    | some (slot, _) => batchEnd slot cause t
  if 0 < left then enterDischarging m none left t else enterIdle m t

/-- R56: the POUR stage ends. -/
def pourEnd (m : Mixer) (s : State) : State :=
  if stepped m s then stepWait m .pour .batchEnd s else finishBatch m s

/-! ### The cycle -/

/-- R79: a cycle begins, at CHECK. One that is to begin during a tag write begins at that write's end. -/
def beginCycle (m : Mixer) (s : State) : State :=
  if (s.station m).tagWrite.isSome then s
  else if contents m s < shortLimit (classField m (·.castMass) s) then
    pourEnd m (withStation m (fun x => { x with step := .none, castIndex := none }) s)
  else enterSpace m (withStation m (fun x => { x with castIndex := some (poured m s + 1) }) s)

/-- R55, R72 (3): the entry into stage POUR. -/
def enterPour (m : Mixer) (s : State) : State :=
  let t := setDrive m .agitate (markStage m .pour (takeState m .pouring (some .pour) s))
  let t := withSeq m (fun q => { q with component := none }) t
  if poured m t = castCount m t then pourEnd m t else beginCycle m t

/-! ### Molds -/

/-- R84: a mold is rejected and passed on; molds rejected wraps after 65,535. -/
def rejectMold (m : Mixer) (s : State) : State :=
  emit (.moldPassedOn m)
    (updateOwnBatch m (fun r => { r with rejected := (r.rejected + 1) % 65536 })
      (withStation m (fun x => { x with step := .mold, mold := none }) s))

/-- R85: the station issues the fill. -/
def startFill (m : Mixer) (s : State) : State :=
  let x := s.station m
  let target := fillTarget (classField m (·.castMass) s) (contents m s) (x.castIndex.getD 0) (castCount m s)
  withStation m (fun x => { x with step := .fill, fill := some target }) (emit (.fill m target) s)

/-- R84: the mold is READY and of a type that agrees with the pattern. -/
def moldAccepted (m : Mixer) (x : Mold) (s : State) : Bool :=
  decide (x.condition = .ready) && (classOf m s).any fun c => moldAgrees c x.moldType

/-- R83, R84: a read result. -/
def moldRead (m : Mixer) (x : Mold) (s : State) : State :=
  let t := withStation m (fun y => { y with mold := some x, unreadable := 0 }) s
  if moldAccepted m x s then startFill m t else callMold m (rejectMold m t)

/-- R82, R66: a mold arrives for an open call, or is passed on empty. A mold names no call: one of a withdrawn call that
arrives once a new call is open is taken for the new call (log 45). -/
def moldArrives (m : Mixer) (s : State) : State :=
  if (s.station m).moldCall.isSome then
    withStation m (fun x => { x with step := .read, moldCall := none, readAttempts := 0 }) (emit (.tagRead m) s)
  else emit (.moldPassedOn m) s

/-! ### Casts -/

/-- R88 (1): the position of the next cast: the first of the reservation list still RESERVED for the batch. -/
def nextPosition (slot : Nat) (r : BatchRecord) (s : State) : Option Nat :=
  r.reservation.find? fun p => decide (s.entry p = .reserved slot r.id)

/-- R88 (2): the cast part at its creation. -/
def newCast (slot : Nat) (r : BatchRecord) (id mass clock : Nat) (off : Bool) : CastPart :=
  { id := id, slot := slot, batch := r.id, order := r.order.getD 0, lot := r.lot.getD 0, cls := r.cls.getD 0,
    pourTime := clock, placed := none, mass := mass, maturity := 0, gap := 0, dry := 0, substituted := 0, state := .transit,
    causes := { CastCauses.empty with dose := r.doseDeviation }, flags := { CastFlags.empty with massOff := off } }

/-- R87, R88: the creation of a cast, and R89: the tag write. The counter is written at the assignment (R87), before the
entry and the batch record (log 42). -/
def createCast (m : Mixer) (slot : Nat) (r : BatchRecord) (p mass : Nat) (off : Bool) (s : State) : State :=
  let id := nextCastId s
  let t := writeEntry p (.occupied (newCast slot r id mass s.clock off)) (write (.castCounter id) s)
  let t := { t with transit := t.transit ++ [{ cast := id, position := p, station := m, written := false }] }
  let t := withStation m (fun x => { x with claim := false, step := .write, tagWrite := some id }) t
  let t := updateBatch slot (fun r => { r with poured := r.poured + 1, live := r.live + 1 }) t
  emit (.tagWrite m id) (bayArrival (bayOf p) t)

/-- R86: the end of a fill, up to what waits on it. No mold call is open then (R82, R84). With no position left to pour
into, which R88 (1) rules out, no cast is created (log 37). -/
def fillEnds (m : Mixer) (target mass : Nat) (s : State) : State :=
  let t := withStation m (fun x => { x with fill := none, castIndex := none, mold := none, moldCall := none }) s
  let t := withSeq m (fun q => { q with fillsTotal := q.fillsTotal + mass }) t
  match batchOf m t with
  | none => t
  | some (slot, r) =>
    match nextPosition slot r t with
    | none => withStation m (fun x => { x with step := .none }) t
    | some p => createCast m slot r p mass (massOff target mass) t

/-- R89, R79: after a tag write, the next cycle begins or the station is at rest. -/
def afterWrite (m : Mixer) (s : State) : State :=
  if (s.station m).step = .write then
    if (s.seq m).state = .pouring ∧ poured m s < castCount m s then beginCycle m s
    else withStation m (fun x => { x with step := .none }) s
  else s

/-- R89: the Transit Queue entry of a cast is marked as written. -/
def markWritten (id : Nat) (s : State) : State :=
  { s with transit := s.transit.map fun e => if e.cast = id then { e with written := true } else e }

/-- R89: the result of a tag write. The shuttle's look at the head (R92) comes before the station's next cycle (R79); the
rules order neither (log 43). -/
def tagWritten (m : Mixer) (written : Bool) (s : State) : State :=
  match (s.station m).tagWrite with
  | none => s
  | some id =>
    let t := withStation m (fun x => { x with tagWrite := none }) s
    match findCast id t with
    | none => afterWrite m t
    | some p =>
      let t := if written then t else updateCast p (fun c => { c with flags := { c.flags with untagged := true } }) t
      afterWrite m (shuttleCheck (markWritten id t))

/-! ### Placement -/

/-- R93: the placement is CONFIRMED. -/
def placementConfirmed (s : State) : State :=
  match s.transit with
  | [] => { s with shuttle := Shuttle.idle }
  | e :: rest =>
    let t := placeCast e.position s
    let t := placeFreed { t with transit := rest }
    let t := evaluateAt e.position (bayPlaced (bayOf e.position) t)
    shuttleCheck { t with shuttle := Shuttle.idle }

/-- R93, R94: the placement completion; discarded when the shuttle is not MOVING. -/
def placementEnds (confirmed : Bool) (s : State) : State :=
  match s.shuttle.state with
  | .moving => if confirmed then placementConfirmed s else shuttleFail .notConfirmed s
  | _ => s

/-- R92 (2), R94: the door wait runs out. -/
def doorWaitEnds (s : State) : State :=
  match s.shuttle.state with
  | .waitingDoor => if due s.oscillator s.shuttle.doorWait then shuttleFail .doorTimeout s else s
  | _ => s

/-! ### Shuttle requests -/

/-- R95: SHUTTLE RETRY. -/
def shuttleRetry (s : State) : State × Reply :=
  match s.shuttle.state with
  | .faulted => (shuttleTake s, .done .empty)
  | _ => (s, .refused .state .empty)

/-- The entry is FREE and its number is one of the 288. -/
def freePosition (p : Nat) (s : State) : Bool := decide (1 ≤ p ∧ p ≤ 288) && (s.entry p).isFree

/-- R96, R164: the cast part at `old` moves to `new`, with a change of its fields. -/
def moveCast (old new : Nat) (c : CastPart) (s : State) : State := writeEntry old .free (writeEntry new (.occupied c) s)

/-- R144 (2), (3) for a move: each bay is told, and the freed entry runs the Dispatcher (log 8). R144 orders the two bays not
at all; the model tells the new one first, with the scan and the auto-seal test of its entry into FILLING, and then the old
one (log 55). -/
def castMoved (old new : Nat) (s : State) : State := dispatch (bayLost (bayOf old) (bayArrival (bayOf new) s))

/-- R96: the redirection of the head cast. -/
def redirect (old new : Nat) (c : CastPart) (s : State) : State × Reply :=
  match s.shuttle.state, s.transit with
  | .faulted, e :: rest =>
    if e.cast ≠ c.id then (s, .refused .state .empty)
    else if freePosition new s = false then (s, .refused .range .empty)
    else if bayOpen (bayOf new) s = false then (s, .refused .state .empty)
    else
      let t := { moveCast old new c s with transit := { e with position := new } :: rest }
      (shuttleTake (castMoved old new t), .done .empty)
  | _, _ => (s, .refused .state .empty)

/-- The state of the cast at a position. -/
def stateAt (p : Nat) (s : State) : CastState := ((s.castAt p).map (·.state)).getD .strayed

/-- R163: a STRAYED cast is confirmed in its own position. -/
def confirmCast (p : Nat) (c : CastPart) (s : State) : State × Reply :=
  let t := evaluateAt p (bayPlaced (bayOf p) (placeCast p s))
  (t, .done (.confirmed c.id p (stateAt p t)))

/-- R164: a STRAYED cast is placed elsewhere; the bays are told and the Dispatcher runs before the cast is evaluated
(log 41). -/
def replaceCast (old new : Nat) (c : CastPart) (s : State) : State × Reply :=
  let t := moveCast old new { c with state := .curing, placed := some s.clock } s
  let t := evaluateAt new (castMoved old new t)
  (t, .done (.moved c.id old new (stateAt new t)))

/-- R96, R162: CAST PLACE. -/
def castPlace (id p : Nat) (s : State) : State × Reply :=
  match findCast id s with
  | none => (s, .refused .noSuch .empty)
  | some old => match s.castAt old with
    | none => (s, .refused .noSuch .empty)
    | some c => match c.state with
      | .transit => redirect old p c s
      | .strayed =>
        if p < 1 ∨ 288 < p then (s, .refused .range .empty)
        else if p = old then confirmCast p c s
        else if freePosition p s = false then (s, .refused .range .empty)
        else if s.bayState (bayOf p) = .absent then (s, .refused .state .empty)
        else replaceCast old p c s
      | _ => (s, .refused .state .empty)

end Sys2Proof.Machine
end

