-- ==== Sys2Proof/Machine/Mixer.lean ====
section
/-! DEFINITION. The Mixer Sequencer and the Cement Scale Arbiter (chapters 3 and 4): grants, holds, lockout, the stages, the completion events and the mixer requests. -/

namespace Sys2Proof.Machine

/-! ### The Cement Scale Arbiter -/

/-- R47: a mixer that has the grant weighs its cement. Each weighing begins by clearing the scale (R44). -/
def weigh (m : Mixer) (s : State) : State :=
  let t := if (s.seq m).component = some .cement then s else beginComponent m .cement s
  deliver m .weighing (targetOf m .cement t - (t.seq m).cementInDrum) (emit .scaleToReturn t)

/-- R45: the grant reaches a mixer. -/
def grant (m : Mixer) (waiting : List Mixer) (s : State) : State :=
  weigh m { s with arbiter := { holder := some m, waiting := waiting, onScale := 0 } }

/-- R45: a mixer requests the scale. -/
def requestScale (m : Mixer) (s : State) : State :=
  match s.arbiter.holder with
  | none => grant m s.arbiter.waiting s
  | some h =>
    if h = m ∨ s.arbiter.waiting.contains m then s
    else { s with arbiter := { s.arbiter with waiting := s.arbiter.waiting ++ [m] } }

/-- R45, R46: the grant is released, and passes to the head of the waiting list. -/
def releaseGrant (s : State) : State :=
  match s.arbiter.waiting with
  | [] => { s with arbiter := Arbiter.idle }
  | x :: rest => grant x rest s

/-- R46 (1), (2): a hold leaves the waiting list, or aborts the weighing and releases the grant. -/
def leaveScale (m : Mixer) (s : State) : State :=
  let t := { s with arbiter := { s.arbiter with waiting := s.arbiter.waiting.filter fun x => decide (x ≠ m) } }
  if t.arbiter.holder = some m then releaseGrant (emit .scaleToReturn t) else t

/-! ### The stop of a delivery -/

/-- A delivery in progress ends. -/
def endDelivery (m : Mixer) (s : State) : State := withSeq m (fun q => { q with delivery := none }) s

/-- R40 (2): the weighing value at a stop: a free value (log 9). -/
def stopReading (s : State) : Nat := capped Config.mixerCapacity (Config.channelReading s.readings)

/-- The next stop reads another value. -/
def takeReading (s : State) : State := { s with readings := s.readings + 1 }

/-- R40, R42: an amount charged into the drum is added to dosed-so-far, and the actual is written. -/
def charge (m : Mixer) (c : Component) (v : Nat) (s : State) : State :=
  let total := (s.seq m).dosed + v
  writeActual m c total (withSeq m (fun q => { q with dosed := total }) s)

/-- R48: cement that has left the scale. -/
def chargeCement (m : Mixer) (v : Nat) (s : State) : State :=
  let total := (s.seq m).cementInDrum + v
  writeActual m .cement total (withSeq m (fun q => { q with cementInDrum := total, dosed := total }) s)

/-- R40 (2), R64: a stop of the delivery in progress. A weighing gives the drum nothing, and a reject discharge is not
stopped. -/
def stopDelivery (m : Mixer) (s : State) : State :=
  match (s.seq m).delivery with
  | none => s
  | some d =>
    let t := endDelivery m (emit (.stopDelivery m d.channel) s)
    match d.channel with
    | .ash => charge m .ash (stopReading s) (takeReading t)
    | .chelant => charge m .chelant (stopReading s) (takeReading t)
    | .water => charge m .water (stopReading s) (takeReading t)
    | .weighing => t
    | .discharge => chargeCement m (stopReading s) (takeReading t)
    | .reject => s

/-! ### Holds (4.1) -/

/-- R63: the stage at launch: the stage the mixer is in, or the saved stage. -/
def launchStage (q : Sequencer) : Stage :=
  match q.saved with
  | some (.stage st) => st
  | some .batchEnd => .pour
  | none => q.stage.getD .ash

/-- R63: the component of a hold record. -/
def holdComponent (current named : Option Component) (st : Stage) : Option Component :=
  let c := match named with
    | some x => some x
    | none => current
  match st with
  | .ash => c
  | .cement => c
  | .liquids => c
  | .mix => none
  | .pour => none
  | .discharging => none

/-- R63: the hold record. -/
def holdRecord (m : Mixer) (cause : HoldCause) (named : Option Component) (st : Stage) (s : State) : HoldRecord :=
  let c := holdComponent (s.seq m).component named st
  { cause := cause, component := c, stage := st, dosed := c.map fun _ => (s.seq m).dosed, poured := poured m s,
    time := s.clock }

/-- R64: the launch of a hold, with its stage at launch. -/
def launchHoldAt (m : Mixer) (cause : HoldCause) (named : Option Component) (st : Stage) (s : State) : State :=
  let t := leaveScale m (stopDelivery m s)
  let t := withSeq m (fun q => { q with mixTimer := none }) t
  let t := if (t.seq m).state = .pouring then stopCycle m t else t
  let h := holdRecord m cause named st t
  let t := withSeq m (fun q => { q with hold := some h, saved := none, stage := none }) t
  let t := withSeq m (fun q => { q with blocked := true, pendingHold := none, state := .held }) (setDrive m .agitate t)
  raise (.mixerHeld m (batchId m t) (orderNumber m t) h) t

/-- R62: a fill or a cement discharge is in flight. -/
def inFlight (m : Mixer) (s : State) : Bool :=
  (s.station m).fill.isSome || (s.seq m).delivery.any fun d => decide (d.channel = .discharge)

/-- Table 4.1: the states in which a cause arises. -/
def holdable : MixerState → Bool
  | .charging => true
  | .mixing => true
  | .pouring => true
  | .stepWait => true
  | .idle => false
  | .held => false
  | .lockout => false
  | .discharging => false

/-- R62: a hold cause arises: it is launched at once, or becomes the pending hold unless one is kept already. -/
def raiseHold (m : Mixer) (cause : HoldCause) (named : Option Component) (s : State) : State :=
  if holdable (s.seq m).state then
    if inFlight m s then
      match (s.seq m).pendingHold with
      | some _ => s
      | none => withSeq m (fun q => { q with pendingHold := some { cause := cause, component := named } }) s
    else launchHoldAt m cause named (launchStage (s.seq m)) s
  else s

/-- R67: the lockout. -/
def lockOut (m : Mixer) (second : SecondCause) (s : State) : State :=
  let t := setDrive m .stopped
    (withSeq m (fun q => { q with lockout := some { second := second, time := s.clock } }) s)
  let t := withSeq m (fun q => { q with potLife := .stopped, blocked := true, state := .lockout }) t
  match (s.seq m).hold with
  | none => t
  | some h => raise (.mixerLockout m (batchId m t) (orderNumber m t) second s.clock h.cause h.stage) t

/-- R53: the event of the motor-overload input. -/
def overloadEvent (m : Mixer) (s : State) : State :=
  match (s.seq m).state with
  | .held => lockOut m .motorOverload s
  | _ => raiseHold m .motorOverload none s

/-- R53: the overload input takes a level; the event is its change from clear to asserted. -/
def overloadInput (m : Mixer) (asserted : Bool) (s : State) : State :=
  let t := withSeq m (fun q => { q with overloadInput := asserted }) s
  if asserted && !(s.seq m).overloadInput then overloadEvent m t else t

/-- R51, R59: a delivery is stopped and the mixer enters DISCHARGING. The reject discharge names the contents after the
stop, which may be 0; R59 gives it no amount but 'the whole drum' (log 43). -/
def dischargeNow (m : Mixer) (cause : EndCause) (s : State) : State :=
  let t := stopDelivery m s
  enterDischarging m (some cause) (contents m t) t

/-! ### Stages (3.4 to 3.8) -/

/-- R50: the pot-life timer is started, once in each batch. -/
def startPotLife (m : Mixer) (s : State) : State :=
  match (s.seq m).potLife with
  | .notStarted =>
    withSeq m (fun q => { q with potLife := .running (ahead s (classField m (·.potLife) s * 60)) }) s
  | _ => s

/-- R57: what follows stage MIX. -/
def afterMix (m : Mixer) (s : State) : State :=
  if stepped m s then stepWait m .mix (.stage .pour) s else enterPour m s

/-- R52: the entry into stage MIX. -/
def enterMix (m : Mixer) (s : State) : State :=
  let t := setDrive m .mix (markStage m .mix (takeState m .mixing (some .mix) s))
  withSeq m (fun q =>
    { q with component := none, mixTimer := some (ahead s (classField m (·.mixTime) t)) }) t

/-- R49, R57: stage LIQUIDS is complete. -/
def afterLiquids (m : Mixer) (s : State) : State :=
  let t := withSeq m (fun q => { q with component := none }) s
  if stepped m t then stepWait m .liquids (.stage .mix) t else enterMix m t

/-- R49 (2): water. -/
def doseWater (m : Mixer) (s : State) : State :=
  if targetOf m .water s = 0 then afterLiquids m (writeActual m .water 0 s)
  else deliver m .water (targetOf m .water s) (startPotLife m (beginComponent m .water s))

/-- R49 (1): the entry into stage LIQUIDS. -/
def enterLiquids (m : Mixer) (s : State) : State :=
  let t := markStage m .liquids (takeState m .charging (some .liquids) s)
  if targetOf m .chelant t = 0 then doseWater m (writeActual m .chelant 0 t)
  else deliver m .chelant (targetOf m .chelant t) (beginComponent m .chelant t)

/-- R57: what follows stage CEMENT. -/
def afterCement (m : Mixer) (s : State) : State :=
  if stepped m s then stepWait m .cement (.stage .liquids) s else enterLiquids m s

/-- R45: the entry into stage CEMENT. -/
def enterCement (m : Mixer) (s : State) : State :=
  requestScale m (markStage m .cement (takeState m .charging (some .cement) s))

/-- R43, R57: stage ASH is complete. -/
def afterAsh (m : Mixer) (s : State) : State :=
  if stepped m s then stepWait m .ash (.stage .cement) s else enterCement m s

/-- R57, R58: a stage is entered. -/
def enterStage (m : Mixer) (st : Stage) (s : State) : State :=
  match st with
  | .ash => enterAsh m s
  | .cement => enterCement m s
  | .liquids => enterLiquids m s
  | .mix => enterMix m s
  | .pour => enterPour m s
  | .discharging => s

/-- R42 (1), R43, R49: a component is accepted, and the stage goes on. -/
def accept (m : Mixer) (c : Component) (s : State) : State :=
  let t := withSeq m (fun q => { q with component := none }) s
  match c with
  | .ash => afterAsh m t
  | .chelant => doseWater m (if targetOf m .water t = 0 then startPotLife m t else t)
  | .water => afterLiquids m t
  | .cement => t

/-! ### Completion events -/

/-- The delivery channel of a component charged straight into the drum. -/
def doseChannel : DoseChannel → Channel × Component
  | .ash => (.ash, .ash)
  | .chelant => (.chelant, .chelant)
  | .water => (.water, .water)

/-- R42: the judgment of a component whose delivery has completed. -/
def judgeDose (m : Mixer) (ch : Channel) (c : Component) (s : State) : State :=
  let target := targetOf m c s
  match judge c target (s.seq m).dosed with
  | .within => accept m c s
  | .above => raiseHold m .overdose (some c) s
  | .below =>
    if (s.seq m).topUp then raiseHold m .underdose (some c) s
    else deliver m ch (target - (s.seq m).dosed) (withSeq m (fun q => { q with topUp := true }) s)

/-- R40: the delivery in progress on a channel. -/
def delivering (m : Mixer) (ch : Channel) (s : State) : Bool := (s.seq m).delivery.any fun d => decide (d.channel = ch)

/-- R40 (1), R42: the completion of an ash, chelant or water delivery; discarded where none is in progress. A completion
names no request: a late one of a stopped request is taken as that of a new one on its channel (log 33). -/
def doseCompletes (m : Mixer) (d : DoseChannel) (amount : Nat) (s : State) : State :=
  let (ch, c) := doseChannel d
  if delivering m ch s then judgeDose m ch c (charge m c amount (endDelivery m s)) else s

/-- R47: the judgment of the cement weighed. -/
def judgeCement (m : Mixer) (s : State) : State :=
  let target := targetOf m .cement s
  let there := (s.seq m).cementInDrum + s.arbiter.onScale
  match judge .cement target there with
  | .within => deliver m .discharge s.arbiter.onScale s
  | .above => raiseHold m .overdose (some .cement) s
  | .below =>
    if (s.seq m).topUp then raiseHold m .underdose (some .cement) s
    else deliver m .weighing (target - there) (withSeq m (fun q => { q with topUp := true }) s)

/-- R47: a weighing completes; it is the holder's, a late one of a stopped weighing too (log 33). -/
def weighingCompletes (amount : Nat) (s : State) : State :=
  match s.arbiter.holder with
  | none => s
  | some m =>
    if delivering m .weighing s then
      judgeCement m { endDelivery m s with arbiter := { s.arbiter with onScale := s.arbiter.onScale + amount } }
    else s

/-- R48: a cement discharge completes; one that comes late is taken as that of a discharge begun since (log 33). -/
def cementCompletes (m : Mixer) (amount : Nat) (s : State) : State :=
  if delivering m .discharge s then
    let t := chargeCement m amount (endDelivery m s)
    let t := releaseGrant (withSeq m (fun q => { q with component := none }) t)
    let t := if targetOf m .chelant t = 0 ∧ targetOf m .water t = 0 then startPotLife m t else t
    match (t.seq m).pendingHold with
    | some p => launchHoldAt m p.cause p.component .liquids t
    | none => afterCement m t
  else s

/-- R59: the reject discharge completes; discarded where none is in progress. -/
def rejectCompletes (m : Mixer) (s : State) : State :=
  if delivering m .reject s then
    let t := endDelivery m s
    match batchOf m t with
    | none => enterIdle m t
    | some (slot, r) =>
      if r.running then enterIdle m (batchEnd slot ((s.seq m).dischargeCause.getD .abandoned) t)
      else enterIdle m t
  else s

/-- R40, Table 3.2: the time limit of a delivery has run out. -/
def deliveryTimedOut (m : Mixer) (ch : Channel) (s : State) : State :=
  match ch with
  | .ash => raiseHold m .feederTimeout (some .ash) s
  | .weighing => raiseHold m .scaleTimeout (some .cement) s
  | .discharge => launchHoldAt m .scaleTimeout (some .cement) .cement s
  | .chelant => raiseHold m .meterTimeout (some .chelant) s
  | .water => raiseHold m .meterTimeout (some .water) s
  | .reject => s

/-- R40, Table 3.2: the time limit of the delivery in progress runs out (log 3). -/
def deliveryExpires (m : Mixer) (s : State) : State :=
  match (s.seq m).delivery with
  | none => s
  | some d => if due s.oscillator d.limit then deliveryTimedOut m d.channel s else s

/-- R52: the mix timer runs out. -/
def mixExpires (m : Mixer) (s : State) : State :=
  if due s.oscillator (s.seq m).mixTimer then
    afterMix m (withSeq m (fun q => { q with mixTimer := none }) (setDrive m .agitate s))
  else s

/-- R51: the pot-life expiry acts by the mixer's state. -/
def potLifeOver (m : Mixer) (s : State) : State :=
  match (s.seq m).state with
  | .charging => dischargeNow m .potLife s
  | .mixing => dischargeNow m .potLife s
  | .stepWait => dischargeNow m .potLife s
  | .pouring =>
    if (s.station m).fill.isSome then withSeq m (fun q => { q with pendingExpiry := true }) s
    else dischargeNow m .potLife s
  | .held => lockOut m .potLife s
  | .idle => s
  | .lockout => s
  | .discharging => s

/-- R51: the pot-life timer runs out (log 3). -/
def potLifeExpires (m : Mixer) (s : State) : State :=
  if due s.oscillator (s.seq m).potLife.expiry? then potLifeOver m s else s

/-- R86, R55: a fill completes; what waits on it then acts. A completion that finds no fill in flight is discarded, which no
rule says of a fill: the model's choice (log 53). -/
def fillCompletes (m : Mixer) (mass : Nat) (s : State) : State :=
  match (s.station m).fill with
  | none => s
  | some target =>
    let t := fillEnds m target mass s
    if (t.seq m).pendingExpiry then dischargeNow m .potLife t
    else match (t.seq m).pendingHold with
      | some p => launchHoldAt m p.cause p.component .pour t
      | none => if (t.seq m).state = .pouring ∧ poured m t = castCount m t then pourEnd m t else t

/-- R83, R84: a no-read result. -/
def moldUnread (m : Mixer) (s : State) : State :=
  let n := (s.station m).readAttempts + 1
  let t := withStation m (fun x => { x with readAttempts := n }) s
  if n < 3 then emit (.tagRead m) t
  else
    let k := (s.station m).unreadable + 1
    let t := rejectMold m (withStation m (fun x => { x with unreadable := k }) t)
    if 3 ≤ k then raiseHold m .tagFail none t else callMold m t

/-- R83: the result of a tag read, in step READ. A result carries no name of its mold: in another step it is discarded, and
one of a read that a hold abandoned (R66) which comes in a later READ is that mold's (log 45). -/
def tagReadEnds (m : Mixer) (r : TagRead) (s : State) : State :=
  if (s.station m).step = .read then
    match r with
    | .read x => moldRead m x s
    | .noRead => moldUnread m s
  else s

/-- R81: the space wait runs out. -/
def spaceWaitExpires (m : Mixer) (s : State) : State :=
  if due s.oscillator (s.station m).spaceWait then
    raiseHold m .transitFull none
      (withStation m (fun x => { x with spaceWait := none })
        { s with spaceList := s.spaceList.filter fun x => decide (x ≠ m) })
  else s

/-- R82: the mold call runs out. -/
def moldCallExpires (m : Mixer) (s : State) : State :=
  if due s.oscillator (s.station m).moldCall then raiseHold m .noMold none s else s

/-! ### Mixer requests (3.10, 4.3) -/

/-- R73 for one position. -/
def doseAt (slot id p : Nat) (s : State) : State :=
  match s.castAt p with
  | none => s
  | some c =>
    if c.slot = slot ∧ c.batch = id ∧ c.flags.assessed = false then
      let t := updateCast p (fun c => { c with causes := { c.causes with dose := true } }) s
      if c.state.credited then evaluateAt p t else t
    else s

/-- R73: the dose-deviation flag is set. -/
def setDeviation (m : Mixer) (s : State) : State :=
  match batchOf m s with
  | none => s
  | some (slot, r) =>
    allPositions.foldl (fun t p => doseAt slot r.id p t) (updateBatch slot (fun r => { r with doseDeviation := true }) s)

/-- R71: the component in course is continued. -/
def continueDose (m : Mixer) (ch : Channel) (c : Component) (h : HoldRecord) (s : State) : State :=
  let target := targetOf m c s
  let dosed := (s.seq m).dosed
  if dosed < target then deliver m ch (target - dosed) s
  else if judge c target dosed = .above ∧ ¬(h.cause = .overdose ∧ h.component = some c) then
    raiseHold m .overdose (some c) s
  else accept m c s

/-- R70, R72 (1), R66: the mixer takes the stage at launch as its stage, and the marker is rewritten. -/
def takeStage (m : Mixer) (st : Stage) (s : State) : State :=
  match st with
  | .ash => markStage m .ash (takeState m .charging (some .ash) s)
  | .cement =>
    markStage m .cement (takeState m .charging (some .cement) (withSeq m (fun q => { q with topUp := false }) s))
  | .liquids => markStage m .liquids (takeState m .charging (some .liquids) s)
  | .mix => markStage m .mix (takeState m .mixing (some .mix) s)
  | .pour =>
    markStage m .pour (takeState m .pouring (some .pour) (withStation m (fun x => { x with unreadable := 0 }) s))
  | .discharging => s

/-- R70 to R72: the stage at launch is entered. -/
def resumeStage (m : Mixer) (h : HoldRecord) (s : State) : State :=
  match h.stage, (s.seq m).component with
  | .ash, some .ash => continueDose m .ash .ash h (takeStage m .ash s)
  | .liquids, some .chelant => continueDose m .chelant .chelant h (takeStage m .liquids s)
  | .liquids, some .water => continueDose m .water .water h (takeStage m .liquids s)
  | .cement, _ => enterCement m (withSeq m (fun q => { q with topUp := false }) s)
  | .pour, _ => enterPour m (withStation m (fun x => { x with unreadable := 0 }) s)
  | st, _ => enterStage m st s

/-- R53, R70: the overload input stands asserted at a resume: the mixer is held again in the stage at launch. The look comes
once R71 and R72 have been done, where they leave the mixer in that stage; where they would end the stage or hold the mixer
again at once, it comes before them, when the mixer has taken the stage (log 25). -/
def holdAgain (m : Mixer) (h : HoldRecord) (s : State) : State :=
  let t := resumeStage m h s
  raiseHold m .motorOverload none (if (t.seq m).stage = some h.stage then t else takeStage m h.stage s)

/-- R70: MIXER RESUME of a HELD mixer. The dose-deviation flag is set, and written, before the stage is entered and the
marker rewritten (log 42). -/
def resume (m : Mixer) (h : HoldRecord) (s : State) : State :=
  let t := withSeq m (fun q => { q with hold := none, blocked := false }) s
  let t := if h.cause = .overdose then setDeviation m t else t
  if (t.seq m).overloadInput then holdAgain m h t else resumeStage m h t

/-- A request that names a mixer (R58, section 4.3): another name is refused with RANGE. -/
def namingMixer (code : Nat) (f : Mixer → State × Reply) (s : State) : State × Reply :=
  match mixerOfCode code with
  | none => (s, .refused .range .empty)
  | some m => f m

/-- R69: MIXER HOLD. -/
def mixerHold (code : Nat) (s : State) : State × Reply :=
  namingMixer code (fun m =>
    if holdable (s.seq m).state then
      (raiseHold m .operator none s, if inFlight m s then .taken else .done .empty)
    else (s, .refused .state .empty)) s

/-- R70: MIXER RESUME. -/
def mixerResume (code : Nat) (s : State) : State × Reply :=
  namingMixer code (fun m =>
    match (s.seq m).state, (s.seq m).hold with
    | .held, some h => (resume m h s, .done .empty)
    | _, _ => (s, .refused .state .empty)) s

/-- R74: MIXER ABANDON. -/
def mixerAbandon (code : Nat) (s : State) : State × Reply :=
  namingMixer code (fun m =>
    match (s.seq m).state with
    | .held => (dischargeNow m .abandoned (withSeq m (fun q => { q with blocked := false }) s), .taken)
    | _ => (s, .refused .state .empty)) s

/-- R58: MIXER STEP. -/
def mixerStep (code : Nat) (s : State) : State × Reply :=
  namingMixer code (fun m =>
    match (s.seq m).state, (s.seq m).saved with
    | .stepWait, some (.stage st) => (enterStage m st s, .done .empty)
    | .stepWait, some .batchEnd => (finishBatch m (withSeq m (fun q => { q with saved := none }) s), .done .empty)
    | _, _ => (s, .refused .state .empty)) s

/-- R75: MIXER CLEAR. -/
def mixerClear (code : Nat) (s : State) : State × Reply :=
  namingMixer code (fun m =>
    match (s.seq m).state with
    | .lockout =>
      match batchOf m s with
      | none => (enterIdle m s, .done .empty)
      | some (slot, r) =>
        if r.running then (enterIdle m (batchEnd slot .lockout s), .done .empty) else (enterIdle m s, .done .empty)
    | _ => (s, .refused .state .empty)) s

end Sys2Proof.Machine
end

