-- ==== Sys2Proof/Machine/Recipe.lean ====
section
/-! DEFINITION. The Class Table and the Lot Table (chapter 1). -/

namespace Sys2Proof.Machine

/-! ### Classes -/

/-- R4 (2), Table 1.1. -/
def classRanges (r : ClassRecord) : Bool :=
  decide (100 ≤ r.cement ∧ r.cement ≤ 800) && decide (r.chloride0 ≤ 200) && decide (r.chloride1 ≤ 200) &&
  decide (r.chloride2 ≤ 200) && decide (r.chloride3 ≤ 200) && decide (250 ≤ r.water ∧ r.water ≤ 700) &&
  decide (r.chelant ≤ 50) && decide (200 ≤ r.castMass ∧ r.castMass ≤ 2500) && decide (r.moldMatch ≤ 255) &&
  decide (r.moldMask ≤ 255) && decide (30 ≤ r.mixTime ∧ r.mixTime ≤ 900) && decide (15 ≤ r.potLife ∧ r.potLife ≤ 180) &&
  decide (-100 ≤ r.datum ∧ r.datum ≤ 100) && decide (r.datum + 50 ≤ r.cap ∧ r.cap ≤ 900) &&
  decide (r.minHumidity ≤ 100) && decide (1 ≤ r.target ∧ r.target ≤ Config.maturityCeiling) &&
  decide (1 ≤ r.minAge ∧ r.minAge ≤ 2000) && decide (r.minAge ≤ r.maxAge ∧ r.maxAge ≤ 4000) &&
  decide (r.gapAllow ≤ 1440) && decide (r.dryAllow ≤ 10080) && decide (r.placement ≠ []) && bayListGood r.placement

/-- R5: the queued orders, the running batches and the casts that name a class. -/
def classCounts (n : Nat) (s : State) : Nat × Nat × Nat :=
  (countQueued (fun o => decide (o.cls = n)) s, countRunning (fun r => decide (r.cls = some n)) s,
    countCasts (fun c => decide (c.cls = n)) s)

/-- R4 (3): the class is in use. -/
def classInUse (n : Nat) (s : State) : Bool :=
  let (q, r, c) := classCounts n s
  decide (0 < q + r + c)

/-- R4: CLASS SET. -/
def classSet (n : Nat) (r : ClassRecord) (s : State) : State × Reply :=
  if n < 1 ∨ 6 < n then (s, .refused .range .empty)
  else if classRanges r = false then (s, .refused .range .empty)
  else if (s.cls n).isSome ∧ classInUse n s then (s, .refused .inUse .empty)
  else (write (.cls n (some r)) s, .done .empty)

/-- R5: QUERY CLASS. -/
def queryClass (n : Nat) (s : State) : State × Reply :=
  if n < 1 ∨ 6 < n then (s, .refused .range .empty)
  else
    let (q, r, c) := classCounts n s
    (s, .done (.classInfo (s.cls n) q r c))

/-! ### Lots -/

/-- The numbers of the eight lot entries. -/
def allLots : List Nat := List.range' 1 8

/-- R8, R9, R11: the queued orders and running batches that name a lot. -/
def lotUses (n : Nat) (s : State) : Nat :=
  countQueued (fun o => decide (o.lot = n)) s + countRunning (fun r => decide (r.lot = some n)) s

/-- R6 (5): the close rank of an entry. -/
def rankOf (i : Nat) (s : State) : Option Nat := (s.lot i).bind fun l => l.state.rank?

/-- R6: the highest close rank in use, or 0. -/
def highestRank (s : State) : Nat := allLots.foldl (fun n i => max n ((rankOf i s).getD 0)) 0

/-- R6 for one entry: a rank higher than `k` moves down by one. -/
def lowerRank (k i : Nat) (s : State) : State :=
  match s.lot i with
  | none => s
  | some l => match l.state with
    | .opened => s
    | .closed r => if k < r then write (.lot i (some { l with state := .closed (r - 1) })) s else s

/-- A CLOSED entry put into a list kept in rising order of close rank. -/
def insertByRank (s : State) (i : Nat) : List Nat → List Nat
  | [] => [i]
  | j :: rest => if (rankOf i s).getD 0 ≤ (rankOf j s).getD 0 then i :: j :: rest else j :: insertByRank s i rest

/-- The CLOSED entries in rising order of close rank, the lower-numbered entry first where a rank is held twice. -/
def byRank (s : State) : List Nat := (allLots.filter fun i => (rankOf i s).isSome).foldr (insertByRank s) []

/-- R6: the CLOSED lots above a rank move down. R6 names no order for these writes; they are made in rising order of rank,
so that no rank is held twice between two of them (log 42). -/
def closeGap (k : Option Nat) (s : State) : State :=
  match k with
  | none => s
  | some k => (byRank s).foldl (fun t i => lowerRank k i t) s

/-- R7: an entry that is free, the lowest-numbered (log 18). -/
def freeLot (s : State) : Option Nat := allLots.find? fun i => (s.lot i).isNone

/-- R7: the CLOSED entry with the lowest close rank: rank 1. -/
def oldestClosed (s : State) : Option Nat :=
  let lowest := allLots.foldl (fun n i => match rankOf i s with
    | some r => if n = 0 ∨ r < n then r else n
    | none => n) 0
  allLots.find? fun i => decide (rankOf i s = some lowest)

/-- An OPEN lot is put into an entry, and the ranks above the lot it puts out close up (R6 to R8). The entry is written
before the ranks (log 42). -/
def placeLot (i n u b : Nat) (s : State) : State × Reply :=
  let l : Lot := { number := n, moisture := u, band := b, state := .opened }
  (closeGap (rankOf i s) (write (.lot i (some l)) s), .done (.lot l))

/-- R7, R8: LOT DEFINE. -/
def lotDefine (n u b : Nat) (s : State) : State × Reply :=
  match findLot n s with
  | some (i, _) =>
    if 450 < u ∨ 3 < b then (s, .refused .range .empty)
    else if 0 < lotUses n s then (s, .refused .inUse .empty)
    else placeLot i n u b s
  | none =>
    if n < 1 ∨ 65535 < n ∨ 450 < u ∨ 3 < b then (s, .refused .range .empty)
    else match freeLot s with
      | some i => placeLot i n u b s
      | none => match oldestClosed s with
        | some i => placeLot i n u b s
        | none => (s, .refused .full .empty)

/-- R9: LOT CLOSE. -/
def lotClose (n : Nat) (s : State) : State × Reply :=
  match findLot n s with
  | none => (s, .refused .noSuch .empty)
  | some (i, l) =>
    if 0 < lotUses n s then (s, .refused .inUse .empty)
    else match l.state with
      | .closed _ => (s, .done .empty)
      | .opened => (write (.lot i (some { l with state := .closed (highestRank s + 1) })) s, .done .empty)

/-- R11: a lot put into a list kept in rising order of number. -/
def insertLot (x : Lot × Nat) : List (Lot × Nat) → List (Lot × Nat)
  | [] => [x]
  | y :: rest => if x.1.number ≤ y.1.number then x :: y :: rest else y :: insertLot x rest

/-- R11: every OPEN and CLOSED entry in rising order of lot number, with its count. -/
def lotList (s : State) : List (Lot × Nat) :=
  (allLots.filterMap fun i => (s.lot i).map fun l => (l, lotUses l.number s)).foldr insertLot []

/-- R11: QUERY LOT. -/
def queryLot (n : Nat) (s : State) : State × Reply :=
  if n = 0 then (s, .done (.lots (lotList s)))
  else match findLot n s with
    | some (_, l) => (s, .done (.lotUses l (lotUses n s)))
    | none => (s, .refused .noSuch .empty)

end Sys2Proof.Machine
end

