-- ==== Sys2Proof/Machine/Removal.lean ====
section
/-! DEFINITION. CAST ASSESS (8.7), CAST TAKE, CAST DISCARD and the certificate (chapter 9). -/

namespace Sys2Proof.Machine

/-- R167, R172 checks 1 and 2: the position of the cast that a request names, or the reason for refusal. -/
def findRef (ref : CastRef) (s : State) : Except Reason Nat :=
  match ref with
  | .byId id =>
    if id < 1 ∨ Config.castIdMax < id then .error .range
    else match findCast id s with
      | some p => .ok p
      | none => .error .noSuch
  | .byPosition p =>
    if p < 1 ∨ 288 < p then .error .range
    else if (s.castAt p).isSome then .ok p else .error .noSuch

/-- R173, R174: the certificate of a cast. -/
def certificateOf (kind : CertificateKind) (p : Nat) (c : CastPart) (forced : Bool) (clock : Nat) : Certificate :=
  { kind := kind, cast := c.id, order := c.order, batch := c.batch, lot := c.lot, cls := c.cls, position := p,
    state := c.state, pourTime := c.pourTime, placed := c.placed, removed := clock, mass := c.mass, maturity := c.maturity,
    age := ageOf clock c / 60, gap := c.gap / 60, dry := c.dry / 60, substituted := c.substituted, flags := c.flags,
    forced := forced, causes := c.causes }

/-- R169 (2) to (5): the removal of a cast: the entry is written FREE, the live count falls and the slot is checked, the
bay is told, and the Dispatcher runs. -/
def removeCast (p : Nat) (c : CastPart) (s : State) : State :=
  dispatch (bayLost (bayOf p) (castGone c.slot c.batch (writeEntry p .free s)))

/-- Table 9.2: a cast that leaves without being RELEASABLE. -/
def notReleasable (c : CastPart) : Bool := decide (c.state ≠ .releasable)

/-- R167 to R169: CAST TAKE. -/
def castTake (ref : CastRef) (force : Bool) (s : State) : State × Reply :=
  match findRef ref s with
  | .error x => (s, .refused x .empty)
  | .ok p => match s.castAt p with
    | none => (s, .refused .noSuch .empty)
    | some c =>
      if c.state = .transit ∨ c.state = .strayed then (s, .refused .state .empty)
      else if s.bayState (bayOf p) ≠ .unloading then (s, .refused .state .empty)
      else if notReleasable c ∧ force = false then (s, .refused .notReleasable .empty)
      else (removeCast p c s, .done (.certificate (certificateOf .release p c (notReleasable c) s.clock)))

/-- R172: CAST DISCARD. -/
def castDiscard (ref : CastRef) (s : State) : State × Reply :=
  match findRef ref s with
  | .error x => (s, .refused x .empty)
  | .ok p => match s.castAt p with
    | none => (s, .refused .noSuch .empty)
    | some c =>
      if c.state ≠ .strayed then (s, .refused .state .empty)
      else (removeCast p c s, .done (.certificate (certificateOf .discard p c false s.clock)))

/-- R160: CAST ASSESS. The entry is written with its causes removed and its assessed flag, and again where the evaluation
changes it (log 47). -/
def castAssess (id : Nat) (s : State) : State × Reply :=
  match findCast id s with
  | none => (s, .refused .noSuch .empty)
  | some p => match s.castAt p with
    | none => (s, .refused .noSuch .empty)
    | some c => match c.state with
      | .held =>
        let t := updateCast p (fun c => { c with causes := .empty, flags := { c.flags with assessed := true } }) s
        let t := evaluateAt p t
        (t, .done (.assessed c.id c.causes (stateAt p t)))
      | _ => (s, .refused .state .empty)

end Sys2Proof.Machine
end

