-- ==== Sys2Proof/Machine/Stations.lean ====
section
/-! DEFINITION. The Report Aligners and the Station Link (chapter 7), with the taking of a report's flags by the Bay Controller (R102) and the step timers that flags and deadlines end (chapter 6). -/

namespace Sys2Proof.Machine

/-! ### Flags of an accepted report -/

/-- R102: the flags take what the report shows; a station-fault report keeps the ready flag. -/
def holdFlags (b : Nat) (r : Report) (s : State) : State :=
  withBay b (fun c =>
    { c with
      door := if r.doorClosed then .closed else .opened
      latch := if r.latched then .engaged else .released
      ready := if r.fault then c.ready else if r.ready then .ready else .notReady }) s

/-- R111, R112, R116: the flag that the bay's step waits for. -/
def stepFlag (b : Nat) (r : Report) (s : State) : State :=
  match s.bayState b, (s.bay b).step with
  | .sealing, some .close => if r.doorClosed then enterLock b s else s
  | .sealing, some .lock => if r.latched then enterCondition b s else s
  | .sealing, some .condition =>
    if (s.bay b).readyWanted && r.ready && !r.fault then sealDone b false s else s
  | .unsealing, some .unlock => if r.latched then s else enterOpen b s
  | .unsealing, some .doorOpen => if r.doorClosed then s else enterUnloading b s
  | _, _ => s

/-- R117: a RELEASED latch where the bay is meant to be shut. -/
def latchFlag (b : Nat) (r : Report) (s : State) : State :=
  if r.latched = false ∧ breachPlace (s.bayState b) (s.bay b).step = true then breach b s else s

/-- R102: the Bay Controller takes the flags and acts on them: the latch, the flag its step waits for, the button. R102
gives no place among these for the shuttle that waits at the bay's door; here the flag reaches it first (log 43). -/
def takeFlags (b : Nat) (r : Report) (s : State) : State :=
  let t := stepFlag b r (latchFlag b r (shuttleDoor b (holdFlags b r s)))
  if r.button then buttonPress b t else t

/-! ### Intervals -/

/-- R135: one substitute interval is inserted and handed over. -/
def substitute (b : Nat) (s : State) : State :=
  let a := s.aligner b
  let run := min Config.runMax (a.run + 1)
  let v := substituteOf run a.lastGood
  creditInterval { bay := b, kind := v.1, readings := v.2, length := (s.settings b).period, arrival := s.clock }
    (withAligner b (fun a =>
      { a with run := run, counters := { a.counters with substituted := a.counters.substituted + 1 } }) s)

/-- R130 (2): so many substitutes, one after another. -/
def substitutes (b : Nat) : Nat → State → State
  | 0, s => s
  | n + 1, s => substitutes b n (substitute b s)

/-- R121: the readings of a report as taken. -/
def readingsOf (r : Report) : Int × Nat := (clampInt (-400) 900 r.temperature, clampNat 0 1000 r.humidity)

/-- R134: the interval of an accepted report. -/
def reportedInterval (b : Nat) (r : Report) (clock : Nat) : Interval :=
  { bay := b, kind := .reported, readings := some (readingsOf r), length := clampNat 10 600 r.period, arrival := clock }

/-- R136: the late timer is started. -/
def startLate (b : Nat) (s : State) : State :=
  let p := (s.settings b).period
  withAligner b (fun a => { a with lateTimer := some (ahead s (p + p / 2)) }) s

/-- R133 (1), (2): the interval, the last good readings and the run. -/
def takeInterval (b : Nat) (r : Report) (s : State) : State :=
  if r.fault then substitute b s
  else
    withAligner b (fun a => { a with lastGood := some (readingsOf r), run := 0 })
      (creditInterval (reportedInterval b r s.clock) s)

/-- R133: the acceptance of a report. -/
def acceptReport (b : Nat) (r : Report) (s : State) : State :=
  startLate b
    (withAligner b (fun a => { a with counters := { a.counters with accepted := a.counters.accepted + 1 } })
      (takeFlags b r (takeInterval b r s)))

/-- R130, R132: the aligner is LOCKED on the report, after the steps of R133 (log 54). -/
def lockOn (b : Nat) (r : Report) (s : State) : State :=
  withAligner b (fun a =>
    { a with state := .locked, expected := some (r.sequence + 1), candidate := none, misinserted := false }) s

/-- R138: the cut limit is tested. -/
def cutTest (b : Nat) (s : State) : State :=
  let a := s.aligner b
  if (s.settings b).cutLimit ≤ a.run then
    raise (.stationBlind b ((s.binding b).map (·.address) |>.getD 0) a.run s.clock)
      (withAligner b (fun a => { a with state := .blind, lateTimer := none, expected := none, candidate := none }) s)
  else s

/-! ### Reports -/

/-- R130: an acceptance in LOCKED; a station-fault report is followed by the test of the cut limit (R137). -/
def acceptLocked (b : Nat) (r : Report) (s : State) : State :=
  let t := lockOn b r (acceptReport b r s)
  if r.fault then cutTest b t else t

/-- R131: a misinserted report. -/
def misinsert (b : Nat) (r : Report) (s : State) : State :=
  withAligner b (fun a =>
    let a := { a with counters := { a.counters with misinserted := a.counters.misinserted + 1 } }
    if a.misinserted then
      { a with state := .syncing, expected := none, misinserted := false, candidate := some r.sequence }
    else { a with misinserted := true }) s

/-- R130 (2): the lost reports ahead of one that steps forward. -/
def insertLost (b k : Nat) (s : State) : State :=
  withAligner b (fun a => { a with counters := { a.counters with lost := a.counters.lost + BitVec.ofNat 16 k } })
    (substitutes b k s)

/-- R130: a report in LOCKED. -/
def reportLocked (b : Nat) (r : Report) (s : State) : State :=
  let k := (r.sequence - (s.aligner b).expected.getD 0).toNat
  if k = 0 then acceptLocked b r s
  else if k ≤ 6 then acceptLocked b r (insertLost b k s)
  else misinsert b r s

/-- R132: a report in SYNCING or BLIND. The rule does not place the entry into LOCKED among the steps of R133; the model makes
it after them, so a scan that the flags or the button run still finds the bay BLIND (the model's choice, log 54). STATION
RESTORED and the scan of R24 (6) come last (log 8). -/
def reportCandidate (b : Nat) (r : Report) (s : State) : State :=
  if r.fault then s
  else if (s.aligner b).candidate = some (r.sequence - 1) then
    let t := lockOn b r (acceptReport b r s)
    match (s.aligner b).state with
    | .blind => dispatch (raise (.stationRestored b r.sequence s.clock) t)
    | _ => t
  else withAligner b (fun a => { a with candidate := some r.sequence }) s

/-- Table 7.3: a report reaches an aligner. -/
def takeReport (b : Nat) (r : Report) (s : State) : State :=
  match (s.aligner b).state with
  | .locked => reportLocked b r s
  | .syncing => reportCandidate b r s
  | .blind => reportCandidate b r s
  | .mismatch => s
  | .unbound => s

/-- R136: a late-timer expiry. -/
def lateExpires (b : Nat) (s : State) : State :=
  if due s.oscillator (s.aligner b).lateTimer then
    let t := withAligner b (fun a => { a with counters := { a.counters with late := a.counters.late + 1 } }) s
    let t := substitute b t
    let t := withAligner b (fun a => { a with expected := a.expected.map (· + 1) }) t
    let t := cutTest b t
    if (t.aligner b).state = .blind then t else startLate b t
  else s

/-! ### Bay step timers -/

/-- The step deadline of the bay has run out. -/
def stepDue (b : Nat) (s : State) : Bool := due s.oscillator (s.bay b).deadline

/-- R111: the deadline of CLOSE or LOCK runs out. -/
def sealStepExpires (b : Nat) (s : State) : State :=
  match s.bayState b, (s.bay b).step with
  | .sealing, some .close => if stepDue b s then sealFail b .close s else s
  | .sealing, some .lock => if stepDue b s then sealFail b .lock s else s
  | _, _ => s

/-- R112: the deadline of CONDITION runs out. -/
def conditionExpires (b : Nat) (s : State) : State :=
  match s.bayState b, (s.bay b).step with
  | .sealing, some .condition => if stepDue b s then sealDone b (s.bay b).readyWanted s else s
  | _, _ => s

/-- R115: the cool-down runs out. -/
def coolExpires (b : Nat) (s : State) : State :=
  match s.bayState b, (s.bay b).step with
  | .unsealing, some .cool => if stepDue b s then enterUnlock b s else s
  | _, _ => s

/-- R116: the deadline of UNLOCK or OPEN runs out. -/
def unsealStepExpires (b : Nat) (s : State) : State :=
  match s.bayState b, (s.bay b).step with
  | .unsealing, some .unlock => if stepDue b s then unsealFail b .unlock s else s
  | .unsealing, some .doorOpen => if stepDue b s then unsealFail b .doorOpen s else s
  | _, _ => s

/-! ### Bindings -/

/-- R123: the bay bound to an address. -/
def bayOfAddress (a : Nat) (s : State) : Option Nat :=
  allBays.find? fun b => (s.binding b).any fun k => decide (k.address = a)

/-- R120: the bound addresses in rising order. -/
def boundAddresses (s : State) : List Nat :=
  (List.range' 1 Config.lastAddress).filter fun a => (bayOfAddress a s).isSome

/-- R129: a bound aligner as after power-up. -/
def freshAligner (b : Nat) (s : State) : State :=
  startLate b (withAligner b (fun _ => { Aligner.unbound with state := .syncing }) s)

/-- R124: a station that answers at an address is polled from the next poll round on: a round in course does not poll it. -/
def leaveRound (a : Nat) (s : State) : State :=
  { s with stationLink := { s.stationLink with round := s.stationLink.round.filter fun x => decide (x ≠ a) } }

/-- R124, R105: a station is bound to an ABSENT bay, which leaves ABSENT with its aligner SYNCING; the standing actuations
are sent, and an entry into EMPTY, or a position made FREE, runs the Dispatcher (log 8). The bay takes its default settings
before the aligner enters SYNCING, so the late timer runs by their period (log 49). -/
def bind (b a serial : Nat) (s : State) : State :=
  let t := leaveAbsent b (write (.binding b (some { address := a, serial := serial })) (leaveRound a s))
  dispatchIf (decide (t.bayState b = .empty) || bayAny Entry.isNonexistent b s) (standing b (freshAligner b t))

/-! ### Hunt -/

/-- R24 (6): the aligner has no stream to trust, and leaving the state runs the Dispatcher. -/
def AlignerState.out : AlignerState → Bool
  | .blind => true
  | .mismatch => true
  | .unbound => false
  | .syncing => false
  | .locked => false

/-- Table 7.2: a bound address answers with the bound serial (log 30). -/
def probeMatch (b : Nat) (s : State) : State :=
  if (s.aligner b).state.out then
    dispatch (startLate b (withAligner b (fun a => { a with state := .syncing, offered := none }) s))
  else s

/-- Table 7.2: a bound address answers with another serial. -/
def probeMismatch (b serial : Nat) (s : State) : State :=
  let t := withAligner b (fun a =>
    { a with state := .mismatch, offered := some serial, lateTimer := none, expected := none, candidate := none }) s
  dispatchIf (decide ((s.aligner b).state = .blind)) t

/-- Table 7.2: a bound address gives silence. -/
def probeSilent (b : Nat) (s : State) : State :=
  let t := withAligner b (fun a =>
    { a with state := .blind, offered := none, lateTimer := none, expected := none, candidate := none }) s
  dispatchIf (decide ((s.aligner b).state = .mismatch)) t

/-- Table 7.2: the outcome of a probe, with what HUNT DONE will list (R125). -/
def probeOutcome (h : Hunt) (a : Nat) (answer : Option Nat) (s : State) : State × Hunt :=
  match bayOfAddress a s, answer with
  | some b, some serial =>
    let bound := ((s.binding b).map (·.serial)).getD 0
    if serial = bound then (probeMatch b s, h)
    else
      (probeMismatch b serial s,
        { h with mismatches := h.mismatches ++ [{ bay := b, address := a, bound := bound, serial := serial }] })
  | some b, none => (probeSilent b s, { h with silent := h.silent ++ [{ bay := b, address := a }] })
  | none, some serial =>
    match allBays.find? fun b => decide (s.bayState b = .absent) with
    | some b => (bind b a serial s, { h with bound := h.bound ++ [{ bay := b, address := a, serial := serial }] })
    | none => (s, { h with leftovers := h.leftovers ++ [{ address := a, serial := serial }] })
  | none, none => (s, h)

/-- R124, R125: the hunt goes on to the next address, or ends. -/
def huntOn (h : Hunt) (s : State) : State :=
  if h.address < Config.lastAddress then
    { s with stationLink := { s.stationLink with hunt := some { h with address := h.address + 1 } } }
  else
    raise (.huntDone h.bound h.mismatches h.silent h.leftovers)
      { s with stationLink := { s.stationLink with hunt := none } }

/-- R120: the exchange on the line has ended. -/
def lineFree (s : State) : State := { s with stationLink := { s.stationLink with exchange := none } }

/-- R124: a probe's answer is taken, or its window runs out. -/
def probeEnds (a : Nat) (answer : Option Nat) (s : State) : State :=
  match s.stationLink.hunt with
  | none => lineFree s
  | some h =>
    let x := probeOutcome h a answer (lineFree s)
    huntOn x.2 x.1

/-- R124: a hunt starts at address 1; a probe of an earlier hunt is given up (log 36). -/
def startHunt (s : State) : State :=
  let e := match s.stationLink.exchange with
    | some (.probe _) => none
    | x => x
  { s with stationLink := { s.stationLink with hunt := some Hunt.first, exchange := e } }

/-! ### What arrives on the Station Link -/

/-- R120: a condition report arrives. -/
def reportArrives (r : Report) (s : State) : State :=
  if s.stationLink.exchange = some (.poll r.address) then
    match bayOfAddress r.address s with
    | none => lineFree s
    | some b => takeReport b r (lineFree s)
  else s

/-- R120: an idle answer arrives. -/
def idleArrives (a : Nat) (s : State) : State :=
  if s.stationLink.exchange = some (.poll a) then lineFree s else s

/-- R120: the window of a poll closes; with no poll on the line no window does (log 53). -/
def pollSilent (s : State) : State :=
  match s.stationLink.exchange with
  | some (.poll _) => lineFree s
  | _ => s

/-- R120, R124: an identity answer arrives. -/
def identityArrives (a serial : Nat) (s : State) : State :=
  if s.stationLink.exchange = some (.probe a) then probeEnds a (some serial) s else s

/-- R120, R124: the window of a probe closes; with no probe on the line no window does (log 53). -/
def probeWindowCloses (s : State) : State :=
  match s.stationLink.exchange with
  | some (.probe a) => probeEnds a none s
  | _ => s

/-! ### What is sent on the Station Link (log 16) -/

/-- A record goes out. -/
def sendStation (r : StationRecord) (s : State) : State := emit (.station r (encodeStation r)) s

/-- R120: the next address of the round is polled. -/
def pollNext (s : State) : State :=
  let left := s.stationLink.round.filter fun a => (bayOfAddress a s).isSome
  let t := { s with stationLink := { s.stationLink with pollDue := false, exchange := none } }
  match (if left = [] then boundAddresses s else left) with
  | [] => t
  | a :: rest =>
    sendStation (.poll a) { t with stationLink := { t.stationLink with exchange := some (.poll a), round := rest } }

/-- A poll is due: it waits for a probe on the line; an unanswered poll on the line is over, and the actuation records
that wait go before the new one (`settle`). -/
def pollCommand (s : State) : State :=
  match s.stationLink.exchange with
  | some (.probe _) => { s with stationLink := { s.stationLink with pollDue := true } }
  | some (.poll _) => { s with stationLink := { s.stationLink with exchange := none, pollDue := true } }
  | none => pollNext s

/-- The actuation records that wait go out. -/
def flush (s : State) : State :=
  s.stationLink.waitingActuations.foldl (fun t r => sendStation r t)
    { s with stationLink := { s.stationLink with waitingActuations := [] } }

/-- R124: the probe that is due goes out on a free line. -/
def probeNext (s : State) : State :=
  match s.stationLink.exchange, s.stationLink.hunt with
  | none, some h =>
    sendStation (.probe h.address) { s with stationLink := { s.stationLink with exchange := some (.probe h.address) } }
  | _, _ => s

/-- R120: a free line carries what waits: actuations, then a poll, then a probe. -/
def settle (s : State) : State :=
  match s.stationLink.exchange with
  | some _ => s
  | none =>
    let t := flush s
    probeNext (if t.stationLink.pollDue then pollNext t else t)

/-! ### Station requests -/

/-- R126: HUNT. -/
def huntRequest (s : State) : State × Reply :=
  match s.stationLink.hunt with
  | some _ => (s, .refused .busy .empty)
  | none => (startHunt s, .taken)

/-- R127: STATION ACCEPT. -/
def stationAccept (b : Nat) (s : State) : State × Reply :=
  if b < 1 ∨ 12 < b then (s, .refused .range .empty)
  else match (s.aligner b).state, s.binding b, (s.aligner b).offered with
    | .mismatch, some k, some serial =>
      let t := write (.binding b (some { k with serial := serial })) s
      (dispatch (standing b (freshAligner b t)), .done .empty)
    | _, _, _ => (s, .refused .state .empty)

/-- The record is an actuation for the station at an address. -/
def StationRecord.actuates (a : Nat) : StationRecord → Bool
  | .actuation x _ => decide (x = a)
  | .poll _ => false
  | .probe _ => false

/-- R103: the actuation records for an address that still wait for the line are given up. -/
def giveUpActuations (a : Nat) (s : State) : State :=
  { s with stationLink :=
      { s.stationLink with waitingActuations := s.stationLink.waitingActuations.filter fun r => !r.actuates a } }

/-- R103: a record for a bay whose aligner becomes UNBOUND is not sent. -/
def leaveStation (b : Nat) (s : State) : State :=
  match s.binding b with
  | none => s
  | some k => giveUpActuations k.address s

/-- R128: STATION UNBIND. An aligner that so leaves BLIND or MISMATCH (R138) runs the Dispatcher (R24 (6)). The records that
wait for its station are not sent (R103). -/
def stationUnbind (b : Nat) (s : State) : State × Reply :=
  if b < 1 ∨ 12 < b then (s, .refused .range .empty)
  else if s.bayState b ≠ .empty then (s, .refused .inUse .empty)
  else
    let t := setBayState b .absent (withAligner b (fun _ => Aligner.unbound) (write (.binding b none) (leaveStation b s)))
    (dispatchIf (s.aligner b).state.out t, .done .empty)

/-- R139, R140: the counters of an aligner are cleared. -/
def clearCounters (b : Nat) (s : State) : State := withAligner b (fun a => { a with counters := Counters.zero }) s

/-- R129: what RESTART makes of an aligner. -/
def restartAligner (b : Nat) (s : State) : State :=
  match (s.aligner b).state with
  | .unbound => withAligner b (fun _ => Aligner.unbound) s
  | .mismatch =>
    withAligner b (fun a => { Aligner.unbound with state := .mismatch, offered := a.offered }) s
  | .blind => dispatch (freshAligner b s)
  | .syncing => freshAligner b s
  | .locked => freshAligner b s

end Sys2Proof.Machine
end

