-- ==== Sys2Proof/Machine/Queries.lean ====
section
/-! DEFINITION. QUERY MIXER (R60), QUERY BAY (R98, R140), QUERY CAST (R165), QUERY STATUS (R185), QUERY QUEUE (R23), CLOCK SET (R189) and RESTART (R193). -/

namespace Sys2Proof.Machine

/-- R23: QUERY QUEUE. -/
def queryQueue (s : State) : State × Reply := (s, .done (.queue (queueLines s 1 s.orders)))

/-- R60 (7): the mixer's standing at the scale. -/
def standingOf (m : Mixer) (s : State) : ScaleStanding :=
  if s.arbiter.holder = some m then .holder
  else match s.arbiter.waiting with
    | x :: rest => if x = m then .first else if rest.contains m then .second else .neither
    | [] => .neither

/-- R60: QUERY MIXER. With no batch record the contents are 0 (log 52). -/
def queryMixer (code : Nat) (s : State) : State × Reply :=
  namingMixer code (fun m =>
    (s, .done (.mixer
      { sequencer := s.seq m, now := s.oscillator, record := (batchOf m s).map (·.2), contents := contents m s,
        standing := standingOf m s, castIndex := (s.station m).castIndex, marker := s.marker m }))) s

/-- R98, R140: the items of QUERY BAY. -/
def bayInfo (b : Nat) (s : State) : BayInfo :=
  { bay := b, settings := s.settings b, controller := s.bay b, aligner := s.aligner b, binding := s.binding b,
    now := s.oscillator, free := bayCount Entry.isFree b s, unusable := bayCount Entry.isUnusable b s,
    nonexistent := bayCount Entry.isNonexistent b s, reserved := bayCount Entry.isReserved b s,
    casts := castStates.map fun st => bayCount (Entry.inState st) b s }

/-- R140: QUERY BAY; the counters are cleared after the reply has been formed. -/
def queryBay (b : Nat) (clear : Bool) (s : State) : State × Reply :=
  if b < 1 ∨ 12 < b then (s, .refused .range .empty)
  else (if clear then clearCounters b s else s, .done (.bay (bayInfo b s)))

/-- R165 (b) to (d). -/
def classFigures (k : ClassRecord) (clock : Nat) (c : CastPart) : ClassFigures :=
  { target := k.target, lacking := k.target - c.maturity, minAgeLeft := k.minAge * 3600 - ageOf clock c,
    maxAgeLeft := k.maxAge * 3600 - ageOf clock c, gapAllow := k.gapAllow, dryAllow := k.dryAllow }

/-- R165: the items of QUERY CAST for a position. -/
def castInfo (p : Nat) (s : State) : CastInfo :=
  { position := p, entry := s.entry p, age := ((s.castAt p).map fun c => ageOf s.clock c / 60).getD 0,
    figures := (s.castAt p).bind fun c => (s.cls c.cls).map fun k => classFigures k s.clock c,
    bayState := s.bayState (bayOf p), aligner := (s.aligner (bayOf p)).state }

/-- R165: QUERY CAST. -/
def queryCast (ref : CastRef) (s : State) : State × Reply :=
  match ref with
  | .byId id => match findCast id s with
    | some p => (s, .done (.cast (castInfo p s)))
    | none => (s, .refused .noSuch .empty)
  | .byPosition p =>
    if p < 1 ∨ 288 < p then (s, .refused .range .empty) else (s, .done (.cast (castInfo p s)))

/-- R185 (8): the STRAYED casts from a position on, with their positions. -/
def strayedFrom (start : Nat) (s : State) : List (Nat × Nat) :=
  (allPositions.filter fun p => decide (start ≤ p)).filterMap fun p => match s.castAt p with
    | some c => if c.state = .strayed then some (c.id, p) else none
    | none => none

/-- R185: the items of QUERY STATUS. -/
def statusInfo (start : Nat) (s : State) : StatusInfo :=
  let l := strayedFrom start s
  { overrun := s.plantLink.overrun, notices := s.plantLink.notices.length, clock := s.clock,
    mixerA := (s.seq .a).state, batchA := (s.seq .a).batch.map (·.id), mixerB := (s.seq .b).state,
    batchB := (s.seq .b).batch.map (·.id), shuttle := s.shuttle.state, transit := s.transit, orders := s.orders.length,
    batches := (allSlots.filter fun k => (s.batch k).isSome).length, hunting := s.stationLink.hunt.isSome,
    bays := allBays.map fun b => (s.bayState b, (s.aligner b).state),
    casts := castStates.map fun st => countCasts (fun c => decide (c.state = st)) s,
    strayed := l.take 16, more := decide (16 < l.length) }

/-- R185: the overrun flag is cleared. -/
def clearOverrun (s : State) : State := { s with plantLink := { s.plantLink with overrun := false } }

/-- R185: QUERY STATUS. -/
def queryStatus (start : Nat) (s : State) : State × Reply :=
  if 288 < start then (s, .refused .range .empty)
  else (clearOverrun s, .done (.status (statusInfo start s)))

/-- R189: CLOCK SET; a value of the request's four bytes is at most the clock's largest. -/
def clockSet (v : Nat) (s : State) : State × Reply :=
  if v < s.clock then (s, .refused .clockBack .empty)
  else (minuteDue { s with clock := capped Config.clockMax v }, .done .empty)

/-- R193: the checks of RESTART. -/
def quiet (s : State) : Bool :=
  let rest : MixerState → Bool := fun st => match st with
    | .idle => true
    | .lockout => true
    | _ => false
  rest (s.seq .a).state && rest (s.seq .b).state && decide (s.shuttle.state = .idle) && decide (s.transit = [])

/-- R193: RESTART. -/
def restart (s : State) : State × Reply :=
  if quiet s then
    let t := clearOverrun { s with orders := [], stations := { a := PourStation.idle, b := PourStation.idle },
                                   spaceList := [], arbiter := Arbiter.idle,
                                   plantLink := { s.plantLink with notices := [] } }
    let t := allBays.foldl (fun u b => restartAligner b u) t
    (startHunt t, .done .empty)
  else (s, .refused .busy .empty)

end Sys2Proof.Machine
end

