-- ==== Sys2Proof/Machine/Recovery.lean ====
section
/-! DEFINITION. The loss of the supply, and the power-up recovery of the Retained Store (chapter 11, R68). -/

namespace Sys2Proof.Machine

/-! ### Loss of power -/

/-- R188: the newest `n` writes are undone: they did not reach the store. -/
def undo : Nat → List Undo → Store → Store
  | 0, _, t => t
  | _, [], t => t
  | n + 1, u :: rest, t =>
    let t := t.put u.before
    undo n rest (if u.good then t else { t with damaged := u.before.id :: t.damaged })

/-- R188: the write in course leaves its record damaged. -/
def damage (u : Undo) (t : Store) : Store := { t.heal u.before.id with damaged := u.before.id :: (t.heal u.before.id).damaged }

/-- R188: what a loss of power leaves of the last command's writes: those not begun did not happen, and the one in course,
where there is one, leaves its record damaged. -/
def cutShort (cut : WriteCut) (journal : List Undo) (t : Store) : Store :=
  match cut with
  | .complete => t
  | .after k => undo (journal.length - k) journal t
  | .during k => match journal.reverse[k]? with
    | none => t
    | some u => damage u (undo (journal.length - k) journal t)

/-- The loss falls ahead of the point at which the last command had made `n` writes. -/
def cutBefore (cut : WriteCut) (n : Nat) : Bool :=
  match cut with
  | .complete => false
  | .after k => decide (k < n)
  | .during k => decide (k < n)

/-- R189, R191 (1): the battery-fail indication at a loss of the supply. One that a recovery had cleared only after the
writes that the loss left undone is still set (log 44). -/
def batteryAtLoss (cut : WriteCut) (s : State) : Bool := s.batteryFail || s.batteryCleared.any (cutBefore cut)

/-- What is not retained (R188), as power-up leaves it; the inputs of the drives keep their levels (log 10). The drive
commands become STOPPED (R38) and are not sent (log 46). -/
def blank (s : State) : State :=
  { s with
    journal := [], batteryCleared := none, orders := []
    mixers := { a := { Sequencer.idle with overloadInput := s.mixers.a.overloadInput }
                b := { Sequencer.idle with overloadInput := s.mixers.b.overloadInput } }
    stations := { a := PourStation.idle, b := PourStation.idle }
    arbiter := Arbiter.idle, transit := [], spaceList := [], shuttle := Shuttle.idle
    bays := Vector.replicate 12 Bay.initial
    aligners := Vector.replicate 12 Aligner.unbound
    stationLink := { exchange := none, waitingActuations := [], pollDue := false, round := [], hunt := none }
    plantLink := { receiver := .beforeStart, buffer := [], inHand := none, reply := none, sending := none, notices := [],
                   overrun := false, held := none }
    outputs := [] }

/-- R189: seconds pass on the clock, which stops at its largest value. -/
def clockAfter (clock n : Nat) : Nat := capped Config.clockMax (clock + n)

/-- The supply is lost, and stays away for some seconds; a battery that fails stops the clock (log 7, log 20). -/
def losePower (cut : WriteCut) (batteryFails : Bool) (seconds : Nat) (s : State) : State :=
  if s.powered then
    let failed := batteryAtLoss cut s || batteryFails
    { blank s with
      powered := false
      store := cutShort cut s.journal s.store
      batteryFail := failed
      oscillator := s.oscillator + seconds
      clock := if failed then s.clock else clockAfter s.clock seconds }
  else begin s

/-! ### Damaged records (R190) -/

/-- A change of every cast part that satisfies a test: the casts that take RECORD, CLOCK or the outage. They are written in
rising order of position, which no rule gives (log 42). -/
def forCasts (f : CastPart → Bool) (g : CastPart → CastPart) (s : State) : State :=
  allPositions.foldl (fun t p => updateCast p (fun c => if f c then g c else c) t) s

/-- A cast takes RECORD. -/
def takeRecord (c : CastPart) : CastPart := { c with causes := { c.causes with record := true } }

/-- A cast takes CLOCK. -/
def takeClock (c : CastPart) : CastPart := { c with causes := { c.causes with clock := true } }

/-- A step for every number of a list whose record was found damaged. -/
def forDamaged (bad : List RecordId) (id : Nat → RecordId) (l : List Nat) (f : Nat → State → State) (s : State) : State :=
  (l.filter fun n => bad.contains (id n)).foldl (fun t n => f n t) s

/-- A damaged class becomes UNDEFINED, and its casts take RECORD. The casts are written first, so that a loss of power among
these writes leaves the class damaged and the next recovery makes them again (log 42). -/
def loseClass (n : Nat) (s : State) : State :=
  write (.cls n none) (forCasts (fun c => decide (c.cls = n)) takeRecord s)

/-- R10 for one entry: a CLOSED lot takes a close rank. -/
def giveRank (n i : Nat) (s : State) : State :=
  match s.lot i with
  | none => s
  | some l => if l.state = .closed n then s else write (.lot i (some { l with state := .closed n })) s

/-- R10: the entries of a list take the close ranks from `n` on. -/
def renumberFrom (n : Nat) : List Nat → State → State
  | [], s => s
  | i :: rest, s => renumberFrom (n + 1) rest (giveRank n i s)

/-- R10: the close ranks are numbered again from 1, in their previous order, in rising order of rank (log 42). -/
def renumberLots (s : State) : State := renumberFrom 1 (byRank s) s

/-- R190, R123, R105: a bay's binding and its state are brought into agreement (log 22). A BAY BREACHED that this raises
carries the clock of the power-up, not yet restarted by R191 (1) (log 56). -/
def agreeBay (b : Nat) (s : State) : State :=
  match s.binding b with
  | none => if s.bayState b = .absent then s else setBayState b .absent s
  | some _ => if s.bayState b = .absent then leaveAbsent b s else s

/-- R190: a running batch record that names a mixer, for a damaged marker; a damaged slot holds no record. Where two name it,
it is that of the lower slot (log 48). -/
def markerFor (bad : List RecordId) (m : Mixer) (s : State) : Option Marker :=
  allSlots.findSome? fun k => match s.batch k with
    | none => none
    | some r =>
      if r.running ∧ r.mixer = some m ∧ ¬ bad.contains (.batch k) then
        some { slot := k, batch := r.id, stage := if 0 < r.poured then .pour else .ash }
      else none

/-- A damaged marker. -/
def recoverMarker (bad : List RecordId) (m : Mixer) (s : State) : State :=
  if bad.contains (.marker m) then writeMarker m (markerFor bad m s) s else s

/-- The batch ID that an entry gives for a slot. -/
def namesSlot (slot : Nat) : Entry → Option Nat
  | .reserved k i => if k = slot then some i else none
  | .occupied c => if c.slot = slot then some c.batch else none
  | .nonexistent => none
  | .unusable => none
  | .free => none

/-- The batch ID that the Cure Table gives for a slot; where its entries differ, that of the lowest position (log 48). -/
def tableNames (slot : Nat) (s : State) : Option Nat := allPositions.findSome? fun p => namesSlot slot (s.entry p)

/-- The batch ID that a marker gives for a slot. -/
def markerNames (m : Mixer) (slot : Nat) (s : State) : Option Nat :=
  (s.marker m).bind fun k => if k.slot = slot then some k.batch else none

/-- A marker names a batch by slot and batch ID together. -/
def markerOf (slot id : Nat) (s : State) : Option Mixer :=
  if markerNames .a slot s = some id then some .a else if markerNames .b slot s = some id then some .b else none

/-- R190: the batch ID of the placeholder that a slot needs, if it needs one. Where only the markers name a damaged slot, and
they name it with two batch IDs, it is that of mixer A's marker (log 48). -/
def placeholderId (slot : Nat) (wasDamaged : Bool) (s : State) : Option Nat :=
  match tableNames slot s with
  | some i => some i
  | none =>
    if wasDamaged then
      match markerNames .a slot s with
      | some i => some i
      | none => markerNames .b slot s
    else none

/-- R190: a placeholder. -/
def placeholder (id : Nat) (m : Option Mixer) : BatchRecord :=
  { id := id, order := none, lot := none, cls := none, mixer := m, targets := { ash := 0, cement := 0, water := 0, chelant := 0 },
    mass := 0, actuals := { ash := none, cement := none, chelant := none, water := none }, reservation := [], poured := 0,
    rejected := 0, doseDeviation := false, stepped := false, damaged := true, start := none, endTime := none,
    endCause := none, live := 0 }

/-- R190 for one slot, damaged or found free. A slot is written once, with what it becomes, and after the casts that take
RECORD, so that a loss of power among these writes leaves it to the next recovery (log 42). -/
def recoverSlot (bad : List RecordId) (slot : Nat) (s : State) : State :=
  let damaged := bad.contains (.batch slot)
  if damaged || (s.batch slot).isNone then
    match placeholderId slot damaged s with
    | none => if damaged then writeBatch slot none s else s
    | some id =>
      writeBatch slot (some (placeholder id (markerOf slot id s)))
        (forCasts (fun c => decide (c.slot = slot)) takeRecord s)
  else s

/-- The highest cast ID held by a cast part, or 0. -/
def highestCastId (s : State) : Nat := allPositions.foldl (fun n p => max n (((s.castAt p).map (·.id)).getD 0)) 0

/-- The highest batch ID held by a slot, or 0. -/
def highestBatchId (s : State) : Nat := allSlots.foldl (fun n k => max n (((s.batch k).map (·.id)).getD 0)) 0

/-- The aligners of the bays whose binding is good (R129, R192). -/
def setAligner (b : Nat) (s : State) : State :=
  match s.binding b with
  | none => s
  | some _ => freshAligner b s

/-- R190, Table 11.1, all but the last-stamp, which needs the settled clock. The order of the kinds is the model's
(log 42). -/
def checkRecords (bad : List RecordId) (s : State) : State :=
  let t := forDamaged bad .entry allPositions (fun p => writeEntry p .unusable) s
  let t := forDamaged bad .cls (List.range' 1 6) loseClass t
  let t := renumberLots (forDamaged bad .lot allLots (fun i => write (.lot i none)) t)
  let t := forDamaged bad .binding allBays (fun b => write (.binding b none)) t
  let t := forDamaged bad .settings allBays (fun b => writeSettings b (BaySettings.default b .absent)) t
  let t := allBays.foldl (fun u b => agreeBay b u) t
  let t := recoverMarker bad .b (recoverMarker bad .a t)
  let t := allSlots.foldl (fun u k => recoverSlot bad k u) t
  let t := if bad.contains .castCounter then write (.castCounter (highestCastId t)) t else t
  if bad.contains .batchCounter then write (.batchCounter (highestBatchId t)) t else t

/-! ### Settlement (R191) -/

/-- The times that a batch record holds. -/
def batchTimes (r : BatchRecord) : List Nat := r.start.toList ++ r.endTime.toList

/-- The times that a cast part holds. -/
def castTimes (c : CastPart) : List Nat := c.pourTime :: c.placed.toList

/-- R191 (1): the times held in the good records. -/
def goodTimes (bad : List RecordId) (s : State) : List Nat :=
  (allPositions.flatMap fun p => match s.castAt p with
    | some c => castTimes c
    | none => []) ++
  (allSlots.flatMap fun k => match s.batch k with
    | some r => batchTimes r
    | none => []) ++
  (if bad.contains .lastStamp then [] else [s.store.lastStamp])

/-- R191 (1): the clock restarted at the latest time held; a free value where no record holds one (log 20). -/
def restartedClock (l : List Nat) : Nat :=
  match l with
  | [] => capped Config.clockMax Config.clockWithoutRecord
  | _ => capped Config.clockMax (l.foldl max 0)

/-- R191 (1): the battery-fail indication is cleared, after the writes made so far (log 44). -/
def clearBattery (s : State) : State := { s with batteryFail := false, batteryCleared := some s.journal.length }

/-- R191 (1): the clock restarted after a battery failure; every cast takes CLOCK, and then the indication is cleared. A
damaged last-stamp gives CLOCK as well (R190). -/
def settleClock (bad : List RecordId) (s : State) : State :=
  let clocked := forCasts (fun _ => true) takeClock
  if s.batteryFail then clearBattery (clocked { s with clock := restartedClock (goodTimes bad s) })
  else if bad.contains .lastStamp then clocked s
  else s

/-- R191 (2): what the outage does to a cast. -/
def outageCast (outage : Nat) (c : CastPart) : CastPart :=
  { c.addGap outage with
    flags := { c.flags with outage := true }, state := match c.state with
      | .transit => .strayed
      | st => st }

/-- R191 (2): the outage is added, to the casts in rising order of position (log 42), and then the last-stamp rewritten. -/
def addOutage (outage : Nat) (s : State) : State :=
  let t := forCasts (fun _ => true) (outageCast outage) s
  write (.lastStamp t.clock) t

/-- The masses of the cast parts that name a batch (log 11). -/
def pouredMass (slot id : Nat) (s : State) : Nat :=
  allPositions.foldl (fun n p => n + match s.castAt p with
    | some c => if c.slot = slot ∧ c.batch = id then c.mass else 0
    | none => 0) 0

/-- R68: the hold record of a mixer that recovery locks out. -/
def recoveredHold (k : Marker) (s : State) : HoldRecord :=
  { cause := .powerLoss, component := none, stage := k.stage, dosed := none
    poured := match s.batch k.slot with
      | some r => if r.id = k.batch then r.poured else 0
      | none => 0
    time := s.clock }

/-- R191 (3), R68, R38. -/
def recoverMixer (m : Mixer) (s : State) : State :=
  match s.marker m with
  | none => s
  | some k =>
    withSeq m (fun q =>
      { q with
        state := .lockout, batch := some { slot := k.slot, id := k.batch }, potLife := .stopped, blocked := true
        hold := some (recoveredHold k s), lockout := some { second := .powerLoss, time := s.clock }
        fillsTotal := pouredMass k.slot k.batch s }) s

/-- R191 (4), R30: the live cast count of a slot is recounted. -/
def recount (slot : Nat) (s : State) : State :=
  match s.batch slot with
  | none => s
  | some r =>
    let n := countCasts (fun c => decide (c.slot = slot ∧ c.batch = r.id)) s
    if n = r.live then s else writeBatch slot (some { r with live := n }) s

/-- R191 (4), R32: a release at recovery, in the order of the reservation list. The bays make their tests at the end of
recovery (log 21), and the Order Queue is empty, so no scan starts anything. -/
def freeNamed (slot : Nat) (r : BatchRecord) (s : State) : State :=
  (releaseList r).foldl (fun t p => if t.entry p = .reserved slot r.id then writeEntry p .free t else t) s

/-- R191 (4), R31: a running batch that no marker names is ended; a placeholder silently. -/
def endUnnamed (slot : Nat) (s : State) : State :=
  match s.batch slot with
  | none => s
  | some r =>
    if r.running ∧ markerOf slot r.id s = none then
      if r.damaged then writeBatch slot (some { r with endTime := some s.clock }) s
      else
        raise (.orderEnded r.order r.id .lockout r.poured r.rejected)
          (freeNamed slot r
            (writeBatch slot (some { r with endTime := some s.clock, endCause := some .lockout }) s))
    else s

/-- R191 (4): a RESERVED entry that names no running batch becomes FREE. -/
def freeStale (p : Nat) (s : State) : State :=
  match s.entry p with
  | .reserved slot id =>
    if (s.batch slot).any fun r => decide (r.id = id) && r.running then s else writeEntry p .free s
  | _ => s

/-- R191 (4): the recount, the ends of the batches that no marker names, the freeing of stale reservations, and the freeing
of slots, each in rising order, which the rule does not give (log 42). -/
def settleBatches (s : State) : State :=
  let t := allSlots.foldl (fun u k => recount k u) s
  let t := allSlots.foldl (fun u k => endUnnamed k u) t
  let t := allPositions.foldl (fun u p => freeStale p u) t
  allSlots.foldl (fun u k => checkSlot k u) t

/-- R191 (5) for one bay; `recover` takes the bays in rising number (log 42). -/
def settleBay (b : Nat) (s : State) : State :=
  match s.bayState b with
  | .sealing => setBayState b .breached s
  | .unsealing => setBayState b .breached s
  | _ => s

/-! ### The end of recovery (R192) -/

/-- How many of the damaged records are of a kind. -/
def countBad (bad : List RecordId) (f : RecordId → Bool) : Nat := (bad.filter f).length

/-- R192: the damaged records of each kind of Table 11.1. The two rows of batch slots, named and not named, are counted as
one kind (log 23). -/
def damageCounts (bad : List RecordId) : DamageCounts :=
  { entries := countBad bad fun x => match x with | .entry _ => true | _ => false
    batches := countBad bad fun x => match x with | .batch _ => true | _ => false
    classes := countBad bad fun x => match x with | .cls _ => true | _ => false
    lots := countBad bad fun x => match x with | .lot _ => true | _ => false
    bindings := countBad bad fun x => match x with | .binding _ => true | _ => false
    settings := countBad bad fun x => match x with | .settings _ => true | _ => false
    castCounter := countBad bad fun x => match x with | .castCounter => true | _ => false
    batchCounter := countBad bad fun x => match x with | .batchCounter => true | _ => false
    markers := countBad bad fun x => match x with | .marker _ => true | _ => false
    lastStamp := countBad bad fun x => match x with | .lastStamp => true | _ => false }

/-- R192: the bays that recovery made BREACHED (log 23). -/
def madeBreached (bad : List RecordId) (old new : State) : Nat :=
  (allBays.filter fun b =>
    decide (new.bayState b = .breached) && (decide (old.bayState b ≠ .breached) || bad.contains (.settings b))).length

/-- R192: the mixers placed in LOCKOUT. -/
def lockedMixers (s : State) : List Mixer := [Mixer.a, .b].filter fun m => decide ((s.seq m).state = .lockout)

/-- R192: POWER UP is queued first, and then the notices held. -/
def announce (r : PowerUpReport) (s : State) : State :=
  (s.plantLink.held.getD []).foldl (fun t n => raise n t)
    (raise (.powerUp r) { s with plantLink := { s.plantLink with held := none } })

/-- R192, R107, R110: the tests of one bay. -/
def bayTests (b : Nat) (s : State) : State := sealPendingTest b (emptyTest b s)

/-- R192, after the notices. The bays make their tests, and are sent their standing actuations (R104), in rising number; no
rule orders them (log 21). -/
def startUp (s : State) : State :=
  let t := allPositions.foldl (fun u p => evaluateAt p u) s
  let t := allBays.foldl (fun u b => bayTests b u) t
  let t := allBays.foldl (fun u b => standing b u) t
  let t := startHunt { t with minuteNext := t.clock + Config.minute }
  { t with plantLink := { t.plantLink with receiver := .hunting } }

/-- R190 to R192: power-up recovery. A cast that a cut move has left in two entries is kept in both (log 50). The bays of R191
(5) are written in rising number (log 42). -/
def recover (s : State) : State :=
  let bad := s.store.damaged
  let t := { blank s with powered := true }
  let t := { t with plantLink := { t.plantLink with held := some [] } }
  let t := checkRecords bad t
  let t := allBays.foldl (fun u b => setAligner b u) t
  let lost := s.batteryFail || bad.contains .lastStamp
  let t := settleClock bad t
  let outage := if lost then 0 else t.clock - t.store.lastStamp
  let t := addOutage outage t
  let t := recoverMixer .b (recoverMixer .a t)
  let t := settleBatches t
  let t := allBays.foldl (fun u b => settleBay b u) t
  startUp (announce
    { outage := outage, clockLost := lost, damaged := damageCounts bad, locked := lockedMixers t,
      breached := madeBreached bad s t, strayed := countCasts (fun c => decide (c.state = .strayed)) t } t)

end Sys2Proof.Machine
end

