-- ==== Sys2Proof/Machine/Link.lean ====
section
/-! DEFINITION. The Plant Link: the receiver (R178), the input buffer and the request in hand (R180, R181), and the frame of every command. -/

namespace Sys2Proof.Machine

/-! ### Acting on a request -/

/-- R181, Table 10.3: the block that owns a request acts on it and forms the reply. -/
def act (r : Request) (s : State) : State × Reply :=
  match r with
  | .orderPost r => orderPost r s
  | .orderWithdraw n => orderWithdraw n s
  | .lotDefine n u b => lotDefine n u b s
  | .lotClose n => lotClose n s
  | .classSet n r => classSet n r s
  | .baySet r => baySet r s
  | .bayMark p st => bayMark p st s
  | .baySeal b => baySeal b s
  | .bayUnseal b => bayUnseal b s
  | .hunt => huntRequest s
  | .stationAccept b => stationAccept b s
  | .stationUnbind b => stationUnbind b s
  | .mixerHold m => mixerHold m s
  | .mixerResume m => mixerResume m s
  | .mixerAbandon m => mixerAbandon m s
  | .mixerStep m => mixerStep m s
  | .mixerClear m => mixerClear m s
  | .shuttleRetry => shuttleRetry s
  | .castPlace c p => castPlace c p s
  | .castDiscard ref => castDiscard ref s
  | .castAssess c => castAssess c s
  | .castTake ref force => castTake ref force s
  | .queryStatus p => queryStatus p s
  | .queryCast ref => queryCast ref s
  | .queryBay b clear => queryBay b clear s
  | .queryMixer m => queryMixer m s
  | .queryQueue => queryQueue s
  | .queryBatch b => queryBatch b s
  | .queryClass n => queryClass n s
  | .queryLot n => queryLot n s
  | .clockSet v => clockSet v s
  | .restart => restart s

/-- R181: a request that has been taken is judged and acted on. -/
def answer (c : Content) (s : State) : State × Reply :=
  match c with
  | .request r => act r s
  | .unknownKind => (s, .refused .unknownKind .empty)
  | .malformed => (s, .refused .malformed .empty)

/-- R179, R182: the reply of the request in hand has been formed. -/
def formReply (r : Received) (x : State × Reply) : State :=
  kick { x.1 with plantLink := { x.1.plantLink with reply := some (.reply r.kind r.tag x.2) } }

/-- R180: with no request in hand, the head of the buffer is taken. -/
def takeNext (s : State) : State :=
  match s.plantLink.inHand, s.plantLink.buffer with
  | none, r :: rest =>
    formReply r (answer r.content { s with plantLink := { s.plantLink with buffer := rest, inHand := some r } })
  | _, _ => s

/-- R180: a received request is offered to the input buffer; before the receiver is in HUNT there is none. -/
def offer (r : Received) (s : State) : State :=
  match s.plantLink.receiver with
  | .beforeStart => s
  | _ =>
    if s.plantLink.buffer.length < Config.inputBufferSize then
      takeNext { s with plantLink := { s.plantLink with buffer := s.plantLink.buffer ++ [r] } }
    else s

/-- A whole request of a known kind (log 1). -/
def requested (tag : Nat) (r : Request) : Received := { kind := requestCode r, tag := tag, content := .request r }

/-! ### The receiver -/

/-- The receiver takes a state. -/
def setReceiver (r : Receiver) (s : State) : State := { s with plantLink := { s.plantLink with receiver := r } }

/-- R178 (3): a complete frame; `l` are its bytes after the start byte. -/
def frameComplete (l : List Byte) (s : State) : State :=
  let covered := l.take (l.length - 2)
  if crcBytes covered = l.drop (l.length - 2) then
    offer { kind := field covered 2 1, tag := field covered 3 1,
            content := parseRequest (field covered 2 1) (covered.drop 4) } (setReceiver .hunting s)
  else setReceiver .hunting s

/-- R178: a byte arrives. -/
def byteArrives (x : Byte) (s : State) : State :=
  match s.plantLink.receiver with
  | .beforeStart => s
  | .hunting => if x = Config.startByte then setReceiver (.receiving []) s else s
  | .receiving l =>
    let l := l ++ [x]
    if 2 ≤ l.length then
      if Config.bodyMax < field l 0 2 then setReceiver .hunting s
      else if l.length = 6 + field l 0 2 then frameComplete l s
      else setReceiver (.receiving l) s
    else setReceiver (.receiving l) s

/-- R178 (2): a gap of more than 20 ms between two bytes of a frame. -/
def gapPasses (s : State) : State :=
  match s.plantLink.receiver with
  | .receiving _ => setReceiver .hunting s
  | _ => s

/-- R179: the frame being sent has ended; the transmitter chooses the next frame, and after a reply the next request is
taken (log 13). With no frame being sent nothing has ended (log 53). -/
def frameEnds (s : State) : State :=
  match s.plantLink.sending with
  | none => s
  | some f =>
    let t := { s with plantLink := { s.plantLink with sending := none } }
    match f.frame with
    | .reply _ _ _ => takeNext (kick { t with plantLink := { t.plantLink with inHand := none } })
    | .notice _ => kick t

/-! ### The frame of a command -/

/-- A command that reaches the controller, at whose end the Station Link carries what waits; with the supply off it finds
nothing there (log 29). -/
def command (f : State → State) (s : State) : Host.Outcome State Fault Refusal :=
  .next (if s.powered then settle (f (begin s)) else begin s)

/-- A request row: a whole request is received (log 1). -/
def request (tag : Nat) (r : Request) (s : State) : Host.Outcome State Fault Refusal := command (offer (requested tag r)) s

end Sys2Proof.Machine
end

