-- ==== Sys2Proof/Machine/Events.lean ====
section
/-! DEFINITION. The meanings of the event rows: each gives its event to the block that the rule named names. -/

namespace Sys2Proof.Machine

/-- R178. -/
def execPlantLinkByte (byte : Byte) (s : State) : Host.Outcome State Fault Refusal :=
  command (byteArrives byte) s

/-- R178 (2). -/
def execInterByteGap (s : State) : Host.Outcome State Fault Refusal :=
  command gapPasses s

/-- R179, R180. -/
def execFrameSent (s : State) : Host.Outcome State Fault Refusal :=
  command frameEnds s

/-- R40, R42. -/
def execDeliveryCompletion (m : Mixer) (channel : DoseChannel) (amount : Nat) (s : State) : Host.Outcome State Fault Refusal :=
  command (doseCompletes m channel amount) s

/-- R47. -/
def execCementWeighingCompletion (amount : Nat) (s : State) : Host.Outcome State Fault Refusal :=
  command (weighingCompletes amount) s

/-- R48. -/
def execCementDischargeCompletion (m : Mixer) (amount : Nat) (s : State) : Host.Outcome State Fault Refusal :=
  command (cementCompletes m amount) s

/-- R59. -/
def execRejectDischargeCompletion (m : Mixer) (s : State) : Host.Outcome State Fault Refusal :=
  command (rejectCompletes m) s

/-- R40, Table 3.2 (log 3). -/
def execDeliveryTimeLimit (m : Mixer) (s : State) : Host.Outcome State Fault Refusal :=
  command (deliveryExpires m) s

/-- R52 (log 3). -/
def execMixTimerExpiry (m : Mixer) (s : State) : Host.Outcome State Fault Refusal :=
  command (mixExpires m) s

/-- R51 (log 3). -/
def execPotLifeExpiry (m : Mixer) (s : State) : Host.Outcome State Fault Refusal :=
  command (potLifeExpires m) s

/-- R53 (log 10). -/
def execMotorOverload (m : Mixer) (asserted : Bool) (s : State) : Host.Outcome State Fault Refusal :=
  command (overloadInput m asserted) s

/-- R81 (log 3). -/
def execSpaceWaitExpiry (m : Mixer) (s : State) : Host.Outcome State Fault Refusal :=
  command (spaceWaitExpires m) s

/-- R82. -/
def execMoldArrival (m : Mixer) (s : State) : Host.Outcome State Fault Refusal :=
  command (moldArrives m) s

/-- R82 (log 3). -/
def execMoldCallTimeout (m : Mixer) (s : State) : Host.Outcome State Fault Refusal :=
  command (moldCallExpires m) s

/-- R83, R84. -/
def execTagReadResult (m : Mixer) (result : TagRead) (s : State) : Host.Outcome State Fault Refusal :=
  command (tagReadEnds m result) s

/-- R86 to R88 (log 53). -/
def execFillCompletion (m : Mixer) (mass : Nat) (s : State) : Host.Outcome State Fault Refusal :=
  command (fillCompletes m mass) s

/-- R89. -/
def execTagWriteResult (m : Mixer) (written : Bool) (s : State) : Host.Outcome State Fault Refusal :=
  command (tagWritten m written) s

/-- R93, R94. -/
def execPlacementCompletion (confirmed : Bool) (s : State) : Host.Outcome State Fault Refusal :=
  command (placementEnds confirmed) s

/-- R92 (2), R94 (log 3). -/
def execDoorWaitExpiry (s : State) : Host.Outcome State Fault Refusal :=
  command doorWaitEnds s

/-- R120, R130 to R133. -/
def execConditionReport (r : Report) (s : State) : Host.Outcome State Fault Refusal :=
  command (reportArrives r) s

/-- R120. -/
def execIdleAnswer (address : Nat) (s : State) : Host.Outcome State Fault Refusal :=
  command (idleArrives address) s

/-- R120 (log 16). -/
def execPoll (s : State) : Host.Outcome State Fault Refusal :=
  command pollCommand s

/-- R120. -/
def execPollAnswerTimeout (s : State) : Host.Outcome State Fault Refusal :=
  command pollSilent s

/-- R136 (log 3). -/
def execLateTimerExpiry (bay : Nat) (s : State) : Host.Outcome State Fault Refusal :=
  command (lateExpires bay) s

/-- R124. -/
def execIdentityAnswer (address serial : Nat) (s : State) : Host.Outcome State Fault Refusal :=
  command (identityArrives address serial) s

/-- R124. -/
def execProbeSilence (s : State) : Host.Outcome State Fault Refusal :=
  command probeWindowCloses s

/-- R111, R113 (log 3). -/
def execSealStepTimeout (bay : Nat) (s : State) : Host.Outcome State Fault Refusal :=
  command (sealStepExpires bay) s

/-- R112 (log 3). -/
def execConditionDeadline (bay : Nat) (s : State) : Host.Outcome State Fault Refusal :=
  command (conditionExpires bay) s

/-- R115 (log 3). -/
def execCoolDownExpiry (bay : Nat) (s : State) : Host.Outcome State Fault Refusal :=
  command (coolExpires bay) s

/-- R116 (log 3). -/
def execUnsealStepTimeout (bay : Nat) (s : State) : Host.Outcome State Fault Refusal :=
  command (unsealStepExpires bay) s

/-- R154 (log 3). -/
def execMinuteTimerExpiry (s : State) : Host.Outcome State Fault Refusal :=
  command minuteDue s

/-- R120: a frame that fails its check, or whose address is not the one addressed, is discarded (log 17). -/
def execStationFrameDiscarded (_frame : List Byte) (s : State) : Host.Outcome State Fault Refusal :=
  command id s

/-- R190 to R192: the supply returns (log 28). -/
def execPowerUp (s : State) : Host.Outcome State Fault Refusal :=
  .next (settle (recover (begin s)))

/-- R188: the supply is lost (log 7). -/
def execPowerLoss (cut : WriteCut) (batteryFails : Bool) (seconds : Nat) (s : State) : Host.Outcome State Fault Refusal :=
  .next (losePower cut batteryFails seconds s)

end Sys2Proof.Machine
end

