-- ==== Sys2Proof/Machine/Requests.lean ====
section
/-! DEFINITION. The meanings of the request rows: each offers its request to the input buffer (R180, log 1), where it is acted on by the rule named as soon as it is taken (Link.lean, act). -/

namespace Sys2Proof.Machine

/-- R20, R21. -/
def execOrderPost (tag : Nat) (r : OrderRequest) (s : State) : Host.Outcome State Fault Refusal :=
  request tag (.orderPost r) s

/-- R22. -/
def execOrderWithdraw (tag order : Nat) (s : State) : Host.Outcome State Fault Refusal :=
  request tag (.orderWithdraw order) s

/-- R7, R8. -/
def execLotDefine (tag lot moisture band : Nat) (s : State) : Host.Outcome State Fault Refusal :=
  request tag (.lotDefine lot moisture band) s

/-- R9. -/
def execLotClose (tag lot : Nat) (s : State) : Host.Outcome State Fault Refusal :=
  request tag (.lotClose lot) s

/-- R4. -/
def execClassSet (tag cls : Nat) (r : ClassRecord) (s : State) : Host.Outcome State Fault Refusal :=
  request tag (.classSet cls r) s

/-- R100. -/
def execBaySet (tag : Nat) (r : BayRequest) (s : State) : Host.Outcome State Fault Refusal :=
  request tag (.baySet r) s

/-- R101. -/
def execBayMark (tag position status : Nat) (s : State) : Host.Outcome State Fault Refusal :=
  request tag (.bayMark position status) s

/-- R108. -/
def execBaySeal (tag bay : Nat) (s : State) : Host.Outcome State Fault Refusal :=
  request tag (.baySeal bay) s

/-- R114. -/
def execBayUnseal (tag bay : Nat) (s : State) : Host.Outcome State Fault Refusal :=
  request tag (.bayUnseal bay) s

/-- R126. -/
def execHunt (tag : Nat) (s : State) : Host.Outcome State Fault Refusal :=
  request tag .hunt s

/-- R127. -/
def execStationAccept (tag bay : Nat) (s : State) : Host.Outcome State Fault Refusal :=
  request tag (.stationAccept bay) s

/-- R128. -/
def execStationUnbind (tag bay : Nat) (s : State) : Host.Outcome State Fault Refusal :=
  request tag (.stationUnbind bay) s

/-- R69. -/
def execMixerHold (tag mixer : Nat) (s : State) : Host.Outcome State Fault Refusal :=
  request tag (.mixerHold mixer) s

/-- R70 to R73. -/
def execMixerResume (tag mixer : Nat) (s : State) : Host.Outcome State Fault Refusal :=
  request tag (.mixerResume mixer) s

/-- R74. -/
def execMixerAbandon (tag mixer : Nat) (s : State) : Host.Outcome State Fault Refusal :=
  request tag (.mixerAbandon mixer) s

/-- R58. -/
def execMixerStep (tag mixer : Nat) (s : State) : Host.Outcome State Fault Refusal :=
  request tag (.mixerStep mixer) s

/-- R75. -/
def execMixerClear (tag mixer : Nat) (s : State) : Host.Outcome State Fault Refusal :=
  request tag (.mixerClear mixer) s

/-- R95. -/
def execShuttleRetry (tag : Nat) (s : State) : Host.Outcome State Fault Refusal :=
  request tag .shuttleRetry s

/-- R96, R162 to R164. -/
def execCastPlace (tag cast position : Nat) (s : State) : Host.Outcome State Fault Refusal :=
  request tag (.castPlace cast position) s

/-- R172. -/
def execCastDiscard (tag : Nat) (ref : CastRef) (s : State) : Host.Outcome State Fault Refusal :=
  request tag (.castDiscard ref) s

/-- R160. -/
def execCastAssess (tag cast : Nat) (s : State) : Host.Outcome State Fault Refusal :=
  request tag (.castAssess cast) s

/-- R167 to R169. -/
def execCastTake (tag : Nat) (ref : CastRef) (force : Bool) (s : State) : Host.Outcome State Fault Refusal :=
  request tag (.castTake ref force) s

/-- R185. -/
def execQueryStatus (tag start : Nat) (s : State) : Host.Outcome State Fault Refusal :=
  request tag (.queryStatus start) s

/-- R165. -/
def execQueryCast (tag : Nat) (ref : CastRef) (s : State) : Host.Outcome State Fault Refusal :=
  request tag (.queryCast ref) s

/-- R140. -/
def execQueryBay (tag bay : Nat) (clear : Bool) (s : State) : Host.Outcome State Fault Refusal :=
  request tag (.queryBay bay clear) s

/-- R60. -/
def execQueryMixer (tag mixer : Nat) (s : State) : Host.Outcome State Fault Refusal :=
  request tag (.queryMixer mixer) s

/-- R23. -/
def execQueryQueue (tag : Nat) (s : State) : Host.Outcome State Fault Refusal :=
  request tag .queryQueue s

/-- R34. -/
def execQueryBatch (tag batch : Nat) (s : State) : Host.Outcome State Fault Refusal :=
  request tag (.queryBatch batch) s

/-- R5. -/
def execQueryClass (tag cls : Nat) (s : State) : Host.Outcome State Fault Refusal :=
  request tag (.queryClass cls) s

/-- R11. -/
def execQueryLot (tag lot : Nat) (s : State) : Host.Outcome State Fault Refusal :=
  request tag (.queryLot lot) s

/-- R189. -/
def execClockSet (tag value : Nat) (s : State) : Host.Outcome State Fault Refusal :=
  request tag (.clockSet value) s

/-- R193. -/
def execRestart (tag : Nat) (s : State) : Host.Outcome State Fault Refusal :=
  request tag .restart s

/-- R181 (1): a request whose kind code is none of Table 10.3. -/
def execUnknownKindRequest (tag kind : Nat) (s : State) : Host.Outcome State Fault Refusal :=
  command (offer { kind := kind, tag := tag, content := .unknownKind }) s

end Sys2Proof.Machine
end

