-- ==== Sys2Proof/Machine/Dispatch.lean ====
section
/-! DEFINITION. One arm for each command. -/

namespace Sys2Proof.Machine

/-- The effect of a command on everything but the queue of waiting commands. -/
def exec (i : Instr) (s : State) : Host.Outcome State Fault Refusal :=
  match i with
  | .orderPost tag r => Sys2Proof.Machine.execOrderPost tag r s
  | .orderWithdraw tag order => Sys2Proof.Machine.execOrderWithdraw tag order s
  | .lotDefine tag lot moisture band => Sys2Proof.Machine.execLotDefine tag lot moisture band s
  | .lotClose tag lot => Sys2Proof.Machine.execLotClose tag lot s
  | .classSet tag cls r => Sys2Proof.Machine.execClassSet tag cls r s
  | .baySet tag r => Sys2Proof.Machine.execBaySet tag r s
  | .bayMark tag position status => Sys2Proof.Machine.execBayMark tag position status s
  | .baySeal tag bay => Sys2Proof.Machine.execBaySeal tag bay s
  | .bayUnseal tag bay => Sys2Proof.Machine.execBayUnseal tag bay s
  | .hunt tag => Sys2Proof.Machine.execHunt tag s
  | .stationAccept tag bay => Sys2Proof.Machine.execStationAccept tag bay s
  | .stationUnbind tag bay => Sys2Proof.Machine.execStationUnbind tag bay s
  | .mixerHold tag mixer => Sys2Proof.Machine.execMixerHold tag mixer s
  | .mixerResume tag mixer => Sys2Proof.Machine.execMixerResume tag mixer s
  | .mixerAbandon tag mixer => Sys2Proof.Machine.execMixerAbandon tag mixer s
  | .mixerStep tag mixer => Sys2Proof.Machine.execMixerStep tag mixer s
  | .mixerClear tag mixer => Sys2Proof.Machine.execMixerClear tag mixer s
  | .shuttleRetry tag => Sys2Proof.Machine.execShuttleRetry tag s
  | .castPlace tag cast position => Sys2Proof.Machine.execCastPlace tag cast position s
  | .castDiscard tag ref => Sys2Proof.Machine.execCastDiscard tag ref s
  | .castAssess tag cast => Sys2Proof.Machine.execCastAssess tag cast s
  | .castTake tag ref force => Sys2Proof.Machine.execCastTake tag ref force s
  | .queryStatus tag start => Sys2Proof.Machine.execQueryStatus tag start s
  | .queryCast tag ref => Sys2Proof.Machine.execQueryCast tag ref s
  | .queryBay tag bay clear => Sys2Proof.Machine.execQueryBay tag bay clear s
  | .queryMixer tag mixer => Sys2Proof.Machine.execQueryMixer tag mixer s
  | .queryQueue tag => Sys2Proof.Machine.execQueryQueue tag s
  | .queryBatch tag batch => Sys2Proof.Machine.execQueryBatch tag batch s
  | .queryClass tag cls => Sys2Proof.Machine.execQueryClass tag cls s
  | .queryLot tag lot => Sys2Proof.Machine.execQueryLot tag lot s
  | .clockSet tag value => Sys2Proof.Machine.execClockSet tag value s
  | .restart tag => Sys2Proof.Machine.execRestart tag s
  | .unknownKindRequest tag kind => Sys2Proof.Machine.execUnknownKindRequest tag kind s
  | .plantLinkByte byte => Sys2Proof.Machine.execPlantLinkByte byte s
  | .interByteGap => Sys2Proof.Machine.execInterByteGap s
  | .frameSent => Sys2Proof.Machine.execFrameSent s
  | .deliveryCompletion m channel amount => Sys2Proof.Machine.execDeliveryCompletion m channel amount s
  | .cementWeighingCompletion amount => Sys2Proof.Machine.execCementWeighingCompletion amount s
  | .cementDischargeCompletion m amount => Sys2Proof.Machine.execCementDischargeCompletion m amount s
  | .rejectDischargeCompletion m => Sys2Proof.Machine.execRejectDischargeCompletion m s
  | .deliveryTimeLimit m => Sys2Proof.Machine.execDeliveryTimeLimit m s
  | .mixTimerExpiry m => Sys2Proof.Machine.execMixTimerExpiry m s
  | .potLifeExpiry m => Sys2Proof.Machine.execPotLifeExpiry m s
  | .motorOverload m asserted => Sys2Proof.Machine.execMotorOverload m asserted s
  | .spaceWaitExpiry m => Sys2Proof.Machine.execSpaceWaitExpiry m s
  | .moldArrival m => Sys2Proof.Machine.execMoldArrival m s
  | .moldCallTimeout m => Sys2Proof.Machine.execMoldCallTimeout m s
  | .tagReadResult m result => Sys2Proof.Machine.execTagReadResult m result s
  | .fillCompletion m mass => Sys2Proof.Machine.execFillCompletion m mass s
  | .tagWriteResult m written => Sys2Proof.Machine.execTagWriteResult m written s
  | .placementCompletion confirmed => Sys2Proof.Machine.execPlacementCompletion confirmed s
  | .doorWaitExpiry => Sys2Proof.Machine.execDoorWaitExpiry s
  | .conditionReport r => Sys2Proof.Machine.execConditionReport r s
  | .idleAnswer address => Sys2Proof.Machine.execIdleAnswer address s
  | .poll => Sys2Proof.Machine.execPoll s
  | .pollAnswerTimeout => Sys2Proof.Machine.execPollAnswerTimeout s
  | .lateTimerExpiry bay => Sys2Proof.Machine.execLateTimerExpiry bay s
  | .identityAnswer address serial => Sys2Proof.Machine.execIdentityAnswer address serial s
  | .probeSilence => Sys2Proof.Machine.execProbeSilence s
  | .sealStepTimeout bay => Sys2Proof.Machine.execSealStepTimeout bay s
  | .conditionDeadline bay => Sys2Proof.Machine.execConditionDeadline bay s
  | .coolDownExpiry bay => Sys2Proof.Machine.execCoolDownExpiry bay s
  | .unsealStepTimeout bay => Sys2Proof.Machine.execUnsealStepTimeout bay s
  | .minuteTimerExpiry => Sys2Proof.Machine.execMinuteTimerExpiry s
  | .powerUp => Sys2Proof.Machine.execPowerUp s
  | .powerLoss cut batteryFails seconds => Sys2Proof.Machine.execPowerLoss cut batteryFails seconds s
  | .stationFrameDiscarded frame => Sys2Proof.Machine.execStationFrameDiscarded frame s

end Sys2Proof.Machine
end

