-- ==== Sys2Proof/Machine/Timers.lean ====
section
/-! DEFINITION. One second of the module's oscillator: the clock and the commands of the timers that have run out (log 2). -/

namespace Sys2Proof.Machine

/-- A command for a timer that has run out. -/
def dueCommand (now : Nat) (t : Option Nat) (i : Instr) : List Instr := if due now t then [i] else []

/-- The timers of one mixer and its Pour Station. A pot-life expiry that waits on a fill (R51) is not raised again. -/
def mixerDue (m : Mixer) (s : State) : List Instr :=
  let q := s.seq m
  let x := s.station m
  dueCommand s.oscillator (q.delivery.bind (·.limit)) (.deliveryTimeLimit m) ++
  dueCommand s.oscillator q.mixTimer (.mixTimerExpiry m) ++
  (if q.pendingExpiry then [] else dueCommand s.oscillator q.potLife.expiry? (.potLifeExpiry m)) ++
  dueCommand s.oscillator x.spaceWait (.spaceWaitExpiry m) ++
  dueCommand s.oscillator x.moldCall (.moldCallTimeout m)

/-- The command of a bay's step deadline. -/
def stepCommand (b : Nat) : SeqStep → Instr
  | .close => .sealStepTimeout b
  | .lock => .sealStepTimeout b
  | .condition => .conditionDeadline b
  | .cool => .coolDownExpiry b
  | .unlock => .unsealStepTimeout b
  | .doorOpen => .unsealStepTimeout b

/-- The timers of one bay and its aligner. -/
def bayDue (b : Nat) (s : State) : List Instr :=
  (match (s.bay b).step with
    | none => []
    | some st => dueCommand s.oscillator (s.bay b).deadline (stepCommand b st)) ++
  dueCommand s.oscillator (s.aligner b).lateTimer (.lateTimerExpiry b)

/-- The expiry commands of every timer that has run out. -/
def timersDue (s : State) : List Instr :=
  mixerDue .a s ++ mixerDue .b s ++ dueCommand s.oscillator s.shuttle.doorWait .doorWaitExpiry ++
  allBays.flatMap (fun b => bayDue b s) ++ dueCommand s.clock (some s.minuteNext) .minuteTimerExpiry

/-- The oscillator runs for one second, on the battery while the supply is off (R189). -/
def second (s : State) : State :=
  { begin s with
    oscillator := s.oscillator + 1
    clock := if !s.powered && s.batteryFail then s.clock else clockAfter s.clock 1 }

/-- One second passes, and the timers that have run out put their commands into the queue. -/
def tick (s : State) : State :=
  let t := second s
  { t with pending := if t.powered then timersDue t else [] }

end Sys2Proof.Machine
end

