-- ==== Sys2Proof/Safety.lean ====
section
/-! DEFINITION. The terms in which claims are stated: what a command leaves unchanged, when a request is acted on at once, and the invariant that every step keeps. -/

namespace Sys2Proof.Machine

/-! ### Frames -/

/-- `t` is `x`, but for what the Station Link carries at the end of a command (`settle`), the outputs of the command and
the record of its writes, which holds no clearing of the battery-fail indication. Every other part of the state is as in
`x`. -/
def Settled (x t : State) : Prop :=
  t = { x with stationLink := (settle x).stationLink, outputs := t.outputs, journal := t.journal, batteryCleared := none }

/-- The command answers a next state, which is `x` in the sense of `Settled`, and the first things it sends are `o`. -/
def Completes (c : Instr) (s x : State) (o : List Output) : Prop :=
  ∃ t, exec c s = .next t ∧ Settled x t ∧ o <+: t.outputs

/-- Nothing but position entries, the Plant Link and the Station Link differs. -/
def OnlyEntries (s t : State) : Prop :=
  t = { s with
    store := { s.store with entries := t.store.entries, damaged := t.store.damaged }
    plantLink := t.plantLink, stationLink := t.stationLink, outputs := t.outputs, journal := t.journal,
    batteryCleared := t.batteryCleared }

/-- What no mixer, pour or batch rule touches is as it was: classes, lots, bindings, aligners, the clock. -/
def HallKept (s t : State) : Prop :=
  t.store.classes = s.store.classes ∧ t.store.lots = s.store.lots ∧ t.store.bindings = s.store.bindings ∧
  t.aligners = s.aligners ∧ t.clock = s.clock ∧ t.oscillator = s.oscillator ∧ t.minuteNext = s.minuteNext

/-! ### Requests acted on at once -/

/-- The supply is on, the receiver has started, no request is in hand or waits, and nothing is being sent: a request that
is received now is taken and acted on at once (R180). -/
def linkFree (s : State) : Prop :=
  s.powered = true ∧ s.plantLink.receiver ≠ .beforeStart ∧ s.plantLink.buffer = [] ∧ s.plantLink.inHand = none ∧
  s.plantLink.reply = none ∧ s.plantLink.sending = none ∧ s.plantLink.held = none

/-- The Plant Link with a request in hand and its reply being sent (R179, R180). -/
def answering (p : PlantLink) (q : Received) (r : Reply) : PlantLink :=
  { p with
    inHand := some q
    sending := some { frame := .reply q.kind q.tag r, bytes := encodeFrame (.reply q.kind q.tag r) } }

/-- `s` with the reply of a request being sent. -/
def State.answered (s : State) (tag : Nat) (q : Request) (r : Reply) : State :=
  { s with plantLink := answering s.plantLink (requested tag q) r }

/-- `s` as a command finds it, with a request in hand whose reply is not yet formed (R180, R181). -/
def State.holding (s : State) (tag : Nat) (q : Request) : State :=
  { begin s with plantLink := { s.plantLink with inHand := some (requested tag q) } }

/-- The reply of the request in hand has been formed (R179, R182). -/
def State.replied (s : State) (tag : Nat) (q : Request) (r : Reply) : State := formReply (requested tag q) (s, r)

/-- The frame of the reply of a request. -/
def replyFrame (tag : Nat) (q : Request) (r : Reply) : Output := .frame (.reply (requestCode q) tag r)

/-! ### The invariant -/

/-- R146, R151: the figures of a cast part stay within their ranges. -/
def CastPart.inRange (c : CastPart) : Bool :=
  decide (c.maturity ≤ Config.maturityCeiling) && decide (c.gap ≤ Config.secondsMax) &&
  decide (c.dry ≤ Config.secondsMax) && decide (c.substituted ≤ Config.substitutedMax)

/-- A cast part that an entry holds is in range. -/
def Entry.inRange (e : Entry) : Bool := e.cast?.all CastPart.inRange

/-- What a write would put back is in range. -/
def Retained.inRange : Retained → Bool
  | .entry _ e => e.inRange
  | _ => true

/-- R80: a station that calls a mold, reads one or fills one holds a place claim. -/
def PourStation.placed (x : PourStation) : Bool :=
  x.claim || (decide (x.step ≠ .read) && x.moldCall.isNone && x.fill.isNone)

/-- R80, R91: the Transit Queue entries and the place claims together are at most the six places, and what is under way at
a station has its claim. -/
def PlacesKept (s : State) : Prop :=
  s.transit.length + claims s ≤ Config.transitPlaces ∧ ∀ m, (s.station m).placed = true

/-- R19, R80, R91, R146, R180, R183, R189: the queues are no longer than their sizes, the clock is at most its largest
value, the figures of every cast part stay within their ranges, in the store and in what the journal would put back, and
the places of the Transit Queue are kept. -/
def Inv (s : State) : Prop :=
  s.orders.length ≤ Config.orderQueueSize ∧ s.plantLink.buffer.length ≤ Config.inputBufferSize ∧
  s.plantLink.notices.length ≤ Config.noticeQueueSize ∧ s.clock ≤ Config.clockMax ∧
  (∀ p, (s.entry p).inRange = true) ∧ (∀ u ∈ s.journal, u.before.inRange = true) ∧ PlacesKept s

end Sys2Proof.Machine
end

