-- ==== Sys2Proof/WellFormed.lean ====
section
/-! DEFINITION. Which commands the links and the equipment can carry: every operand fits the field that carries it (R187 (7), Tables 10.6 to 10.12, R83, R86). A value that fits its field and lies outside the range of the owning rule is well formed: that rule refuses it. -/

namespace Sys2Proof

/-- The value fits `n` bytes. -/
def fits (n v : Nat) : Bool := decide (v < 256 ^ n)

/-- The value fits `n` bytes in two's complement. -/
def fitsInt (n : Nat) (v : Int) : Bool :=
  decide (-(256 ^ n / 2 : Nat) ≤ v) && decide (v < (256 ^ n / 2 : Nat))

/-- A list of items of `n` bytes behind its count byte. -/
def fitsList (n : Nat) (l : List Nat) : Bool := fits 1 l.length && l.all (fits n)

namespace ClassRecord
/-- The fields of Table 1.1 fit their bytes. -/
def wf (r : ClassRecord) : Bool :=
  fits 2 r.cement && fits 1 r.chloride0 && fits 1 r.chloride1 && fits 1 r.chloride2 && fits 1 r.chloride3 &&
  fits 2 r.water && fits 1 r.chelant && fits 2 r.castMass && fits 1 r.moldMatch && fits 1 r.moldMask &&
  fits 2 r.mixTime && fits 1 r.potLife && fitsInt 1 r.datum && fitsInt 2 r.cap && fits 1 r.minHumidity &&
  fits 3 r.target && fits 2 r.minAge && fits 2 r.maxAge && fits 2 r.gapAllow && fits 2 r.dryAllow &&
  fitsList 1 r.placement
end ClassRecord

namespace OrderRequest
/-- Table 10.7. -/
def wf (r : OrderRequest) : Bool :=
  fits 2 r.order && fits 2 r.lot && fits 1 r.cls && fits 1 r.count && fits 1 r.mixerChoice && fits 1 r.bayCount &&
  decide (r.bayBytes.length = 4) && r.bayBytes.all (fits 1)
end OrderRequest

namespace BayRequest
/-- The fields of Table 6.2 fit their bytes. -/
def wf (r : BayRequest) : Bool :=
  fits 1 r.bay && fits 1 r.levels && fits 1 r.slots && (r.fillOrder.all (fitsList 2)) && fits 2 r.period &&
  fits 1 r.cutLimit && fits 2 r.settle && fits 2 r.coolDown
end BayRequest

namespace CastRef
/-- The three bytes after the form byte (10.6.4). -/
def wf : CastRef → Bool
  | .byId i => fits 3 i
  | .byPosition p => fits 3 p
end CastRef

namespace Request
/-- Every field of the request fits its bytes. -/
def wf : Request → Bool
  | .orderPost r => r.wf
  | .orderWithdraw o => fits 2 o
  | .lotDefine l u b => fits 2 l && fits 2 u && fits 1 b
  | .lotClose l => fits 2 l
  | .classSet c r => fits 1 c && r.wf
  | .baySet r => r.wf
  | .bayMark p st => fits 2 p && fits 1 st
  | .baySeal b => fits 1 b
  | .bayUnseal b => fits 1 b
  | .hunt => true
  | .stationAccept b => fits 1 b
  | .stationUnbind b => fits 1 b
  | .mixerHold m => fits 1 m
  | .mixerResume m => fits 1 m
  | .mixerAbandon m => fits 1 m
  | .mixerStep m => fits 1 m
  | .mixerClear m => fits 1 m
  | .shuttleRetry => true
  | .castPlace c p => fits 3 c && fits 2 p
  | .castDiscard ref => ref.wf
  | .castAssess c => fits 3 c
  | .castTake ref _ => ref.wf
  | .queryStatus p => fits 2 p
  | .queryCast ref => ref.wf
  | .queryBay b _ => fits 1 b
  | .queryMixer m => fits 1 m
  | .queryQueue => true
  | .queryBatch b => fits 2 b
  | .queryClass c => fits 1 c
  | .queryLot l => fits 2 l
  | .clockSet v => fits 4 v
  | .restart => true
end Request

namespace Instr
/-- The request of a request row, with its tag. -/
def request? : Instr → Option (Nat × Request)
  | .orderPost t r => some (t, .orderPost r)
  | .orderWithdraw t o => some (t, .orderWithdraw o)
  | .lotDefine t l u b => some (t, .lotDefine l u b)
  | .lotClose t l => some (t, .lotClose l)
  | .classSet t c r => some (t, .classSet c r)
  | .baySet t r => some (t, .baySet r)
  | .bayMark t p st => some (t, .bayMark p st)
  | .baySeal t b => some (t, .baySeal b)
  | .bayUnseal t b => some (t, .bayUnseal b)
  | .hunt t => some (t, .hunt)
  | .stationAccept t b => some (t, .stationAccept b)
  | .stationUnbind t b => some (t, .stationUnbind b)
  | .mixerHold t m => some (t, .mixerHold m)
  | .mixerResume t m => some (t, .mixerResume m)
  | .mixerAbandon t m => some (t, .mixerAbandon m)
  | .mixerStep t m => some (t, .mixerStep m)
  | .mixerClear t m => some (t, .mixerClear m)
  | .shuttleRetry t => some (t, .shuttleRetry)
  | .castPlace t c p => some (t, .castPlace c p)
  | .castDiscard t ref => some (t, .castDiscard ref)
  | .castAssess t c => some (t, .castAssess c)
  | .castTake t ref f => some (t, .castTake ref f)
  | .queryStatus t p => some (t, .queryStatus p)
  | .queryCast t ref => some (t, .queryCast ref)
  | .queryBay t b c => some (t, .queryBay b c)
  | .queryMixer t m => some (t, .queryMixer m)
  | .queryQueue t => some (t, .queryQueue)
  | .queryBatch t b => some (t, .queryBatch b)
  | .queryClass t c => some (t, .queryClass c)
  | .queryLot t l => some (t, .queryLot l)
  | .clockSet t v => some (t, .clockSet v)
  | .restart t => some (t, .restart)
  | .unknownKindRequest _ _ => none
  | .plantLinkByte _ => none
  | .interByteGap => none
  | .frameSent => none
  | .deliveryCompletion _ _ _ => none
  | .cementWeighingCompletion _ => none
  | .cementDischargeCompletion _ _ => none
  | .rejectDischargeCompletion _ => none
  | .deliveryTimeLimit _ => none
  | .mixTimerExpiry _ => none
  | .potLifeExpiry _ => none
  | .motorOverload _ _ => none
  | .spaceWaitExpiry _ => none
  | .moldArrival _ => none
  | .moldCallTimeout _ => none
  | .tagReadResult _ _ => none
  | .fillCompletion _ _ => none
  | .tagWriteResult _ _ => none
  | .placementCompletion _ => none
  | .doorWaitExpiry => none
  | .conditionReport _ => none
  | .idleAnswer _ => none
  | .poll => none
  | .pollAnswerTimeout => none
  | .lateTimerExpiry _ => none
  | .identityAnswer _ _ => none
  | .probeSilence => none
  | .sealStepTimeout _ => none
  | .conditionDeadline _ => none
  | .coolDownExpiry _ => none
  | .unsealStepTimeout _ => none
  | .minuteTimerExpiry => none
  | .powerUp => none
  | .powerLoss _ _ _ => none
  | .stationFrameDiscarded _ => none

/-- A station address (Table 0.4). -/
def isAddress (a : Nat) : Bool := decide (1 ≤ a) && decide (a ≤ Config.lastAddress)

/-- A bay number (Table 0.4). -/
def isBayNumber (b : Nat) : Bool := decide (1 ≤ b) && decide (b ≤ 12)

/-- A measured mass of the equipment (R86, R37 (5)). -/
def isMass (w : Nat) : Bool := decide (w ≤ Config.mixerCapacity)

/-- A tag read gives a mold ID of 32 bits and a mold type of 8 (R78 (6)). -/
def isRead : TagRead → Bool
  | .noRead => true
  | .read m => fits 4 m.id && fits 1 m.moldType

/-- Table 10.9: the fields of a condition report fit its bytes. -/
def isReport (r : Report) : Bool :=
  isAddress r.address && fits 2 r.period && fitsInt 2 r.temperature && fits 2 r.humidity

/-- The command is one that the links and the equipment can carry. -/
def wf (i : Instr) : Bool :=
  match i.request? with
  | some (t, r) => fits 1 t && r.wf
  | none =>
    match i with
    | .unknownKindRequest t k => fits 1 t && fits 1 k && !(decide (1 ≤ k) && decide (k ≤ 32))
    | .deliveryCompletion _ _ w => isMass w
    | .cementWeighingCompletion w => isMass w
    | .cementDischargeCompletion _ w => isMass w
    | .fillCompletion _ w => isMass w
    | .tagReadResult _ r => isRead r
    | .conditionReport r => isReport r
    | .idleAnswer a => isAddress a
    | .identityAnswer a s => isAddress a && fits 4 s
    | .lateTimerExpiry b => isBayNumber b
    | .sealStepTimeout b => isBayNumber b
    | .conditionDeadline b => isBayNumber b
    | .coolDownExpiry b => isBayNumber b
    | .unsealStepTimeout b => isBayNumber b
    | _ => true
end Instr

end Sys2Proof
end

