-- ==== Sys2Proof/Certificates/Slice0/Obligations.lean ====
section
/-! DEFINITION. The statements about the controller. `Completes c s x o` (Safety.lean) says that command `c` answers a next state, which is `x` but for what the Station Link carries at the command's end, and that the command sends `o` first. -/

open Sys2Proof Sys2Proof.Machine

/-! ### The machine as a whole -/

/-- A step with a command at the front of the queue is that command's meaning on the state with the queue's rest. -/
def Obligations.StepTakesTheFrontCommand : Prop :=
  ∀ (c : Instr) (rest : List Instr) (s : State), s.pending = c :: rest → step s = exec c { s with pending := rest }

/-- On an empty queue one second passes (the model's choice, log 2): the oscillator and the clock count it, the clock
stopping at its largest value (R189), the expiry commands of the timers that have run out enter the queue, and nothing
else changes. While the supply is off the clock runs on the battery unless that has failed, and no command enters. -/
def Obligations.EmptyQueueLetsOneSecondPass : Prop :=
  ∀ s : State, s.pending = [] →
    ∃ t, step s = .next t ∧
      t = { s with
              oscillator := s.oscillator + 1
              clock := if s.powered = false ∧ s.batteryFail = true then s.clock else min 4294967295 (s.clock + 1)
              pending := if s.powered then timersDue t else []
              outputs := [], journal := [], batteryCleared := none }

/-- No command stops the machine: each answers a next state, whatever the state, the supply off included (log 29). It leaves
the waiting commands alone, which are the model's own (log 1), and only POWER_UP and POWER_LOSS change the supply and the
oscillator (R188, R189, logs 2, 7). -/
def Obligations.EveryCommandAnswersNext : Prop :=
  ∀ (c : Instr) (s : State), ∃ t, exec c s = .next t ∧ t.pending = s.pending ∧
    (c ≠ .powerUp → (∀ k b n, c ≠ .powerLoss k b n) → t.powered = s.powered ∧ t.oscillator = s.oscillator)

/-- R189: the controller clock never decreases, whatever the command; only POWER_UP, which restarts a clock that a
failed battery has stopped (R191), is excepted. -/
def Obligations.ClockNeverDecreases : Prop :=
  ∀ (c : Instr) (s t : State), exec c s = .next t → c ≠ .powerUp → s.clock ≤ 4294967295 → s.clock ≤ t.clock

/-- The invariant holds at reset. -/
def Obligations.InvariantHoldsAtReset : Prop := Inv State.reset

/-- Every step keeps the invariant: queue sizes, the clock's bound, the ranges of the figures of every cast, and the places
of the Transit Queue: its entries and the place claims together are at most six, and a station that calls a mold, reads
one or fills one has its claim (R80, R91). -/
def Obligations.EveryStepKeepsTheInvariant : Prop :=
  ∀ s t : State, Inv s → step s = .next t → Inv t

/-- What reset leaves (R3, R10, R19, R35, R38, R44, R78, R91, R92, R145, R183): the first power-up of a module whose store
has never been written (log 5). -/
def Obligations.ResetIsAnEmptyHall : Prop :=
  let s := State.reset
  (∀ n, s.cls n = none) ∧ (∀ i, s.lot i = none) ∧ (∀ k, s.batch k = none) ∧
  (∀ p, 1 ≤ p → p ≤ 288 → s.entry p = .unusable) ∧ (∀ b, s.binding b = none) ∧ (∀ b, s.bayState b = .absent) ∧
  (∀ b, (s.aligner b).state = .unbound) ∧ (∀ m, (s.seq m).state = .idle ∧ (s.seq m).drive = .stopped) ∧
  (∀ m, s.marker m = none) ∧ (∀ m, s.station m = PourStation.idle) ∧ s.orders = [] ∧ s.transit = [] ∧ s.spaceList = [] ∧
  s.shuttle.state = .idle ∧ s.arbiter.holder = none ∧ s.arbiter.waiting = [] ∧ s.store.castCounter = 0 ∧
  s.store.batchCounter = 0 ∧ s.plantLink.buffer = [] ∧ s.plantLink.overrun = false ∧ s.store.damaged = [] ∧
  s.pending = []

/-- R188, R192: a loss of power after the last command's writes keeps the store and clears what is not retained; one between
the last two writes leaves the newest record old and no record newly damaged, and one during the newest write leaves that
record damaged and no other (log 7). The battery-fail indication stays set where the loss undoes a recovery short of its
clearing (log 44). While the supply is off, commands find nothing (log 29).
R190 to R192: POWER_UP (with the supply on as well: log 28) over a store with no damaged record and a good battery adds
the outage to the gap of every cast, makes a TRANSIT cast STRAYED and evaluates the others, locks out a mixer whose marker
is set, rewrites the last-stamp, sends POWER UP first, sets the minute timer and starts a hunt. After a battery failure
the clock restarts at the latest time held, and every cast takes CLOCK; a damaged last-stamp gives CLOCK with the clock as
it stands (log 19). A damaged position entry becomes UNUSABLE, a damaged class UNDEFINED with RECORD for its casts, and a
damaged slot that a cast names a placeholder with RECORD for that cast (Table 11.1). -/
def Obligations.PowerLossAndPowerUp : Prop :=
  (∀ (c : Instr) (cut : WriteCut) (b : Bool) (n : Nat) (u : Undo) (w : List Undo) (s : State),
    let failed := s.batteryFail = true ∨ b = true ∨ ∃ j, s.batteryCleared = some j ∧ cutBefore cut j = true
    (s.powered = true →
      ∃ t, exec (.powerLoss cut b n) s = .next t ∧ t.powered = false ∧ t.oscillator = s.oscillator + n ∧
        (failed → t.batteryFail = true ∧ t.clock = s.clock) ∧
        (¬ failed → t.batteryFail = false ∧ t.clock = min 4294967295 (s.clock + n)) ∧
        t.orders = [] ∧ t.transit = [] ∧ t.plantLink.notices = [] ∧ t.plantLink.buffer = [] ∧
        t.plantLink.receiver = .beforeStart ∧ t.stationLink.hunt = none ∧
        (∀ j, (t.seq j).state = .idle ∧ t.station j = PourStation.idle) ∧
        (cut = .complete → t.store = s.store) ∧
        (s.journal = u :: w → (cut = .after w.length ∨ cut = .during w.length) →
          t.store = { s.store.put u.before with damaged := t.store.damaged } ∧
          (∀ d, d ≠ u.before.id → t.store.damaged.contains d = s.store.damaged.contains d) ∧
          (cut = .after w.length → s.store.damaged.contains u.before.id = false →
            t.store.damaged.contains u.before.id = !u.good) ∧
          (cut = .during w.length → t.store.damaged.contains u.before.id = true))) ∧
    (s.powered = false → c ≠ .powerUp → exec c s = .next { s with outputs := [], journal := [], batteryCleared := none })) ∧
  (∀ (m : Mixer) (k : Marker) (s : State), s.store.damaged = [] → s.batteryFail = false →
    let outage := s.clock - s.store.lastStamp
    ∃ t r, exec .powerUp s = .next t ∧ t.powered = true ∧ t.clock = s.clock ∧ t.store.lastStamp = s.clock ∧
      t.minuteNext = s.clock + 60 ∧ t.orders = [] ∧ t.transit = [] ∧ t.plantLink.receiver = .hunting ∧
      t.stationLink.hunt = some Hunt.first ∧ t.stationLink.exchange = some (.probe 1) ∧
      t.plantLink.sending.map (·.frame) = some (.notice (.powerUp r)) ∧ r.outage = outage ∧ r.clockLost = false ∧
      (s.marker m = some k →
        (t.seq m).state = .lockout ∧ (t.seq m).batch = some { slot := k.slot, id := k.batch } ∧
        (t.seq m).lockout = some { second := .powerLoss, time := s.clock } ∧ (t.seq m).drive = .stopped) ∧
      (s.marker m = none → (t.seq m).state = .idle) ∧
      ∀ p x, s.castAt p = some x → (s.batch x.slot).isSome = true →
        t.castAt p = some (evaluateCast (s.cls x.cls) s.clock
          { x with
            gap := min 4294967295 (x.gap + outage), flags := { x.flags with outage := true }
            state := if x.state = .transit then .strayed else x.state })) ∧
  (∀ s : State, s.store.damaged = [] → s.batteryFail = true →
    ∃ t r, exec .powerUp s = .next t ∧ t.batteryFail = false ∧
      t.clock = min 4294967295 ((goodTimes [] s).foldl max 0) ∧ t.store.lastStamp = t.clock ∧
      t.plantLink.sending.map (·.frame) = some (.notice (.powerUp r)) ∧ r.outage = 0 ∧ r.clockLost = true ∧
      ∀ p x, s.castAt p = some x → ∃ y, t.castAt p = some y ∧ y.causes.clock = true) ∧
  (∀ (d : RecordId) (p k : Nat) (x : CastPart) (s : State), s.store.damaged = [d] → s.batteryFail = false →
    s.castAt p = some x →
    ∃ t r, exec .powerUp s = .next t ∧ t.clock = s.clock ∧ t.store.lastStamp = s.clock ∧
      t.plantLink.sending.map (·.frame) = some (.notice (.powerUp r)) ∧
      (d = .lastStamp → r.outage = 0 ∧ r.clockLost = true ∧ ∃ y, t.castAt p = some y ∧ y.causes.clock = true) ∧
      (d = .entry p → t.entry p = .unusable ∧ r.damaged.entries = 1) ∧
      (d = .cls x.cls → 1 ≤ x.cls → x.cls ≤ 6 → t.cls x.cls = none ∧ r.damaged.classes = 1 ∧
        ∃ y, t.castAt p = some y ∧ y.causes.record = true) ∧
      (d = .batch k → x.slot = k → 1 ≤ k → k ≤ 32 → tableNames k s = some x.batch →
        r.damaged.batches = 1 ∧ (∃ y, t.castAt p = some y ∧ y.causes.record = true) ∧
        ∃ q, t.batch k = some q ∧ q.id = x.batch ∧ q.damaged = true ∧ q.order = none ∧ 1 ≤ q.live))

/-! ### The Plant Link (10) -/

/-- R183: a notice joins the tail of a queue of fewer than 32; a notice raised with 32 queued is lost, and sets the
overrun flag. -/
def Obligations.NoticeQueueHolds32 : Prop :=
  ∀ (n : Notice) (s : State),
    (s.plantLink.notices.length < 32 →
      queueNotice n s = { s with plantLink := { s.plantLink with notices := s.plantLink.notices ++ [n] } }) ∧
    (32 ≤ s.plantLink.notices.length →
      queueNotice n s = { s with plantLink := { s.plantLink with overrun := true } })

/-- R187: the body of every well-formed request is read back as that request under its kind code (the bodies that 10.6
does not lay out as log 15 reads R187 (7)). -/
def Obligations.RequestBodiesReadBack : Prop :=
  ∀ r : Request, r.wf = true → parseRequest (requestCode r) (requestBytes r) = .request r

/-- R178: the bytes of a whole frame, received one after another in HUNT, offer exactly the request they spell, and
leave the receiver in HUNT. -/
def Obligations.WholeFrameIsOffered : Prop :=
  ∀ (kind tag : Nat) (body : List Byte) (s : State),
    kind < 256 → tag < 256 → body.length ≤ 250 → s.plantLink.receiver = .hunting →
    (frameBytes kind tag body).foldl (fun t x => byteArrives x t) s =
      offer { kind := kind, tag := tag, content := parseRequest kind body } s

/-- R178: a byte in HUNT, other than 0x7E, is dropped; 0x7E starts a frame; a byte of a frame not yet complete is added to
it; length bytes above 250 end it; a complete frame whose check word does not agree is discarded; and a gap of more than
20 ms ends it. -/
def Obligations.ReceiverTakesBytes : Prop :=
  ∀ (x : Byte) (l : List Byte) (s : State), s.powered = true →
    (s.plantLink.receiver = .hunting → x ≠ 0x7E#8 → Completes (.plantLinkByte x) s s []) ∧
    (s.plantLink.receiver = .hunting → Completes (.plantLinkByte 0x7E#8) s (setReceiver (.receiving []) s) []) ∧
    (s.plantLink.receiver = .receiving l → (l ++ [x]).length < 2 →
      Completes (.plantLinkByte x) s (setReceiver (.receiving (l ++ [x])) s) []) ∧
    (s.plantLink.receiver = .receiving l → 2 ≤ (l ++ [x]).length → 250 < field (l ++ [x]) 0 2 →
      Completes (.plantLinkByte x) s (setReceiver .hunting s) []) ∧
    (s.plantLink.receiver = .receiving l → 2 ≤ (l ++ [x]).length → field (l ++ [x]) 0 2 ≤ 250 →
      (l ++ [x]).length ≠ 6 + field (l ++ [x]) 0 2 →
      Completes (.plantLinkByte x) s (setReceiver (.receiving (l ++ [x])) s) []) ∧
    (s.plantLink.receiver = .receiving l → 2 ≤ (l ++ [x]).length → field (l ++ [x]) 0 2 ≤ 250 →
      (l ++ [x]).length = 6 + field (l ++ [x]) 0 2 →
      crcBytes ((l ++ [x]).take ((l ++ [x]).length - 2)) ≠ (l ++ [x]).drop ((l ++ [x]).length - 2) →
      Completes (.plantLinkByte x) s (setReceiver .hunting s) []) ∧
    (s.plantLink.receiver = .receiving l → Completes .interByteGap s (setReceiver .hunting s) [])

/-- R180, R181: on a free Plant Link every request row is acted on at once, with the request in hand, by the block that owns
its kind, and its reply is formed (log 1). While a request is in hand, a request received joins the tail of the input
buffer when that holds fewer than 4, and is discarded when it holds 4. A kind code that is none of Table 10.3 is refused
with UNKNOWN_KIND and has no effect; so is, with MALFORMED, a whole frame whose body does not have the form of its kind,
at its last byte. -/
def Obligations.RequestsOnThePlantLink : Prop :=
  ∀ (c : Instr) (tag kind : Nat) (r : Request) (x : Byte) (l : List Byte) (s : State),
    (c.request? = some (tag, r) → linkFree s →
      exec c s = .next (settle ((act r (s.holding tag r)).1.replied tag r (act r (s.holding tag r)).2))) ∧
    (c.request? = some (tag, r) → s.powered = true → s.plantLink.receiver ≠ .beforeStart →
      s.plantLink.inHand.isSome = true →
      Completes c s
        (if s.plantLink.buffer.length < 4 then
          { s with plantLink := { s.plantLink with buffer := s.plantLink.buffer ++ [requested tag r] } }
        else s) []) ∧
    (linkFree s →
      let q : Received := { kind := kind, tag := tag, content := .unknownKind }
      Completes (.unknownKindRequest tag kind) s
        { s with plantLink := answering s.plantLink q (.refused .unknownKind .empty) }
        [.frame (.reply kind tag (.refused .unknownKind .empty))]) ∧
    (linkFree s → s.plantLink.receiver = .receiving l →
      let f := l ++ [x]
      let covered := f.take (f.length - 2)
      2 ≤ f.length → field f 0 2 ≤ 250 → f.length = 6 + field f 0 2 → crcBytes covered = f.drop (f.length - 2) →
      parseRequest (field covered 2 1) (covered.drop 4) = .malformed →
      let q : Received := { kind := field covered 2 1, tag := field covered 3 1, content := .malformed }
      Completes (.plantLinkByte x) s
        { s with plantLink := { answering s.plantLink q (.refused .malformed .empty) with receiver := .hunting } }
        [.frame (.reply q.kind q.tag (.refused .malformed .empty))])

/-- R179, R180: at the end of a frame the transmitter sends the reply that waits, else the oldest notice, else it is
idle; at the end of a reply the request is no longer in hand, and the head of the input buffer is taken and acted on,
behind a notice that waited (log 13). -/
def Obligations.FrameSentChoosesTheNextFrame : Prop :=
  ∀ (s : State) (f : Sending) (n : Notice) (rest : List Notice) (kind tag : Nat) (r : Reply) (g : Frame) (q : Received)
    (qs : List Received),
    s.powered = true → s.plantLink.sending = some f →
    let sent := fun (k : Frame) => some ({ frame := k, bytes := encodeFrame k } : Sending)
    let next := fun (p : PlantLink) (o : List Output) =>
      formReply q (answer q.content { begin s with plantLink := { p with buffer := qs, inHand := some q }, outputs := o })
    (f.frame = .notice n → s.plantLink.reply = some g →
      Completes .frameSent s { s with plantLink := { s.plantLink with reply := none, sending := sent g } } [.frame g]) ∧
    ((∃ k, f.frame = .notice k) → s.plantLink.reply = none → s.plantLink.inHand = none → s.plantLink.notices = n :: rest →
      Completes .frameSent s
        { s with plantLink := { s.plantLink with notices := rest, sending := sent (.notice n) } } [.frame (.notice n)]) ∧
    ((∃ k, f.frame = .notice k) → s.plantLink.reply = none → s.plantLink.notices = [] →
      Completes .frameSent s { s with plantLink := { s.plantLink with sending := none } } []) ∧
    (f.frame = .reply kind tag r → s.plantLink.reply = none → s.plantLink.buffer = [] → s.plantLink.notices = n :: rest →
      Completes .frameSent s
        { s with plantLink := { s.plantLink with inHand := none, notices := rest, sending := sent (.notice n) } }
        [.frame (.notice n)]) ∧
    (f.frame = .reply kind tag r → s.plantLink.reply = none → s.plantLink.buffer = [] → s.plantLink.notices = [] →
      Completes .frameSent s { s with plantLink := { s.plantLink with inHand := none, sending := none } } []) ∧
    (f.frame = .reply kind tag r → s.plantLink.reply = none → s.plantLink.buffer = q :: qs → s.plantLink.notices = [] →
      exec .frameSent s = .next (settle (next { s.plantLink with sending := none } []))) ∧
    (f.frame = .reply kind tag r → s.plantLink.reply = none → s.plantLink.buffer = q :: qs →
      s.plantLink.notices = n :: rest →
      exec .frameSent s =
        .next (settle (next { s.plantLink with notices := rest, sending := sent (.notice n) } [.frame (.notice n)])))

/-- R5, R11, R23, R34, R60, R165: each of these queries is answered at once and changes nothing but the Plant Link. QUERY
QUEUE carries the orders, oldest first, each with its place and its findings: the mixer that the Dispatcher would take
(mixer A where both are IDLE and it may be ANY), whether a slot is free, and how many positions a reservation walk would
hold, up to N (R25, R26). QUERY CLASS carries the record and its three counts; QUERY LOT one lot with the number of queued
orders and running batches that name it, or every lot in rising order of number; QUERY BATCH the record with its positions
still RESERVED, or every occupied slot in rising order; QUERY MIXER the sequencer with what other blocks hold for it, its
contents 0 where no batch record stands (the model's choice: log 52); QUERY CAST the entry with age, figures, bay state and
aligner. A class number or position out of range and a mixer name other than A or B are refused with RANGE, and a lot, batch
ID or cast ID that is not held with NO_SUCH. -/
def Obligations.QueriesChangeNothing : Prop :=
  ∀ (tag n : Nat) (ref : CastRef) (s : State), linkFree s →
    (Completes (.queryMixer tag n) s (s.answered tag (.queryMixer n) (queryMixer n s).2) [replyFrame tag (.queryMixer n) (queryMixer n s).2] ∧
      Completes (.queryQueue tag) s (s.answered tag .queryQueue (.done (.queue (queueLines s 1 s.orders)))) [] ∧
      Completes (.queryBatch tag n) s (s.answered tag (.queryBatch n) (queryBatch n s).2) [replyFrame tag (.queryBatch n) (queryBatch n s).2] ∧
      Completes (.queryClass tag n) s (s.answered tag (.queryClass n) (queryClass n s).2) [replyFrame tag (.queryClass n) (queryClass n s).2] ∧
      Completes (.queryLot tag n) s (s.answered tag (.queryLot n) (queryLot n s).2) [replyFrame tag (.queryLot n) (queryLot n s).2] ∧
      Completes (.queryCast tag ref) s (s.answered tag (.queryCast ref) (queryCast ref s).2) [replyFrame tag (.queryCast ref) (queryCast ref s).2]) ∧
    (queueLines s 1 s.orders).length = s.orders.length ∧
    (∀ o, s.orders[n]? = some o →
      let idle := fun (m : Mixer) => (s.seq m).state = .idle
      let bays : List Nat := match o.bays with
        | some l => l
        | none => ((s.cls o.cls).map (·.placement)).getD []
      let takes := fun (b : Nat) =>
        (s.bayState b = .empty ∨ s.bayState b = .filling) ∧
        ((s.aligner b).state = .syncing ∨ (s.aligner b).state = .locked)
      let held := (bays.filter fun b => decide (takes b)).flatMap fun b =>
        (s.settings b).fillOrder.filter fun p => decide (s.entry p = .free)
      (queueLines s 1 s.orders)[n]? = some
        { place := n + 1, order := o
          mixer :=
            if o.choice ≠ .b ∧ idle .a then some .a else if o.choice ≠ .a ∧ idle .b then some .b else none
          slotFree := (List.range' 1 32).any fun k => (s.batch k).isNone
          positions := min o.count held.length }) ∧
    (1 ≤ n → n ≤ 6 →
      (queryClass n s).2 =
        .done (.classInfo (s.cls n) (s.orders.filter fun o => decide (o.cls = n)).length
          (countRunning (fun r => decide (r.cls = some n)) s) (countCasts (fun c => decide (c.cls = n)) s))) ∧
    ((n < 1 ∨ 6 < n) → (queryClass n s).2 = .refused .range .empty) ∧
    (queryLot 0 s).2 = .done (.lots (lotList s)) ∧
    (lotList s).Pairwise (fun x y => x.1.number ≤ y.1.number) ∧
    (∀ l k, (l, k) ∈ lotList s ↔ (∃ i, s.lot i = some l) ∧ k = lotUses l.number s) ∧
    (∀ i l, n ≠ 0 → findLot n s = some (i, l) → (queryLot n s).2 = .done (.lotUses l (lotUses n s))) ∧
    (n ≠ 0 → (∀ i l, s.lot i = some l → l.number ≠ n) → (queryLot n s).2 = .refused .noSuch .empty) ∧
    (queryBatch 0 s).2 = .done (.batches ((List.range' 1 32).filterMap fun k => (s.batch k).map (batchLine k))) ∧
    (∀ k r, n ≠ 0 → s.batch k = some r → r.id = n → (∀ j q, j < k → s.batch j = some q → q.id ≠ n) →
      (queryBatch n s).2 =
        .done (.batch k r (r.reservation.filter fun p => decide (s.entry p = .reserved k n)).length)) ∧
    (n ≠ 0 → (∀ k r, s.batch k = some r → r.id ≠ n) → (queryBatch n s).2 = .refused .noSuch .empty) ∧
    (∀ m, mixerOfCode n = some m →
      (queryMixer n s).2 = .done (.mixer
        { sequencer := s.seq m, now := s.oscillator, record := (batchOf m s).map (·.2), contents := contents m s,
          standing := standingOf m s, castIndex := (s.station m).castIndex, marker := s.marker m })) ∧
    (mixerOfCode n = none → (queryMixer n s).2 = .refused .range .empty) ∧
    (∀ p, findCast n s = some p → (queryCast (.byId n) s).2 = .done (.cast (castInfo p s))) ∧
    (findCast n s = none → (queryCast (.byId n) s).2 = .refused .noSuch .empty) ∧
    (1 ≤ n → n ≤ 288 → (queryCast (.byPosition n) s).2 = .done (.cast (castInfo n s))) ∧
    ((n < 1 ∨ 288 < n) → (queryCast (.byPosition n) s).2 = .refused .range .empty) ∧
    (∀ c k, s.castAt n = some c → s.cls c.cls = some k →
      castInfo n s =
        { position := n, entry := .occupied c, age := (s.clock - c.pourTime) / 60,
          figures := some
            { target := k.target, lacking := k.target - c.maturity,
              minAgeLeft := k.minAge * 3600 - (s.clock - c.pourTime),
              maxAgeLeft := k.maxAge * 3600 - (s.clock - c.pourTime), gapAllow := k.gapAllow, dryAllow := k.dryAllow },
          bayState := s.bayState (bayOf n), aligner := (s.aligner (bayOf n)).state })

/-- R185: QUERY STATUS is refused with RANGE above 288; otherwise its reply carries the overrun flag as it was, which is
then cleared, and nothing else changes. With the flag it carries the number of notices, the clock, the mixers' states and
batch IDs, the shuttle, the Transit Queue, the numbers of queued orders and occupied slots, whether a hunt runs, the bay and
aligner states, the casts in each state, and up to 16 STRAYED casts from the start position on, with the mark of more. R98,
R140: QUERY BAY of a number outside 1 to 12 is refused with RANGE; otherwise its reply carries the bay's settings and
controller, how many positions have each status and each cast state, the aligner with its counters, and the binding. With
its clear option the five counters are then 0; without it the query changes nothing. -/
def Obligations.QueriesThatClear : Prop :=
  ∀ (tag start b : Nat) (clear : Bool) (s : State), linkFree s →
    let count := fun (f : Entry → Bool) => ((bayPositions b).filter fun p => f (s.entry p)).length
    let states := [CastState.transit, .curing, .releasable, .overdue, .held, .strayed]
    let is := fun (st : CastState) (e : Entry) => e.cast?.any fun c => decide (c.state = st)
    let strayed := ((List.range' 1 288).filter fun p => decide (start ≤ p)).filterMap fun p =>
      (s.castAt p).bind fun c => if c.state = .strayed then some (c.id, p) else none
    (start ≤ 288 →
      Completes (.queryStatus tag start) s
        ({ s with plantLink := { s.plantLink with overrun := false } }.answered tag (.queryStatus start)
          (.done (.status (statusInfo start s))))
        [replyFrame tag (.queryStatus start) (.done (.status (statusInfo start s)))]) ∧
    (288 < start →
      Completes (.queryStatus tag start) s (s.answered tag (.queryStatus start) (.refused .range .empty)) []) ∧
    statusInfo start s =
      { overrun := s.plantLink.overrun, notices := s.plantLink.notices.length, clock := s.clock
        mixerA := (s.seq .a).state, batchA := (s.seq .a).batch.map (·.id)
        mixerB := (s.seq .b).state, batchB := (s.seq .b).batch.map (·.id)
        shuttle := s.shuttle.state, transit := s.transit, orders := s.orders.length
        batches := ((List.range' 1 32).filter fun k => (s.batch k).isSome).length
        hunting := s.stationLink.hunt.isSome
        bays := (List.range' 1 12).map fun j => (s.bayState j, (s.aligner j).state)
        casts := states.map fun st => ((List.range' 1 288).filter fun p => is st (s.entry p)).length
        strayed := strayed.take 16, more := decide (16 < strayed.length) } ∧
    (1 ≤ b → b ≤ 12 →
      Completes (.queryBay tag b true) s
        ((withAligner b (fun a =>
          { a with counters := { accepted := 0, lost := 0, misinserted := 0, late := 0, substituted := 0 } }) s).answered
          tag (.queryBay b true) (.done (.bay (bayInfo b s)))) [] ∧
      Completes (.queryBay tag b false) s (s.answered tag (.queryBay b false) (.done (.bay (bayInfo b s)))) []) ∧
    ((b < 1 ∨ 12 < b) →
      Completes (.queryBay tag b clear) s (s.answered tag (.queryBay b clear) (.refused .range .empty)) []) ∧
    bayInfo b s =
      { bay := b, settings := s.settings b, controller := s.bay b, aligner := s.aligner b, binding := s.binding b
        now := s.oscillator, free := count fun e => decide (e = .free), unusable := count fun e => decide (e = .unusable)
        nonexistent := count fun e => decide (e = .nonexistent)
        reserved := count fun e => match e with
          | .reserved _ _ => true
          | _ => false
        casts := states.map fun st => count (is st) }

/-- R189: a CLOCK SET below the clock is refused with CLOCK_BACK; any other value becomes the clock. A value short of the
minute timer's next expiry leaves the timer and the last-stamp as they were; one that reaches it brings one expiry
(R154), with the notices of its evaluations behind the reply. -/
def Obligations.ClockSetMovesTheClock : Prop :=
  ∀ (tag v : Nat) (s : State), linkFree s →
    (v < s.clock →
      Completes (.clockSet tag v) s (s.answered tag (.clockSet v) (.refused .clockBack .empty))
        [replyFrame tag (.clockSet v) (.refused .clockBack .empty)]) ∧
    (s.clock ≤ v → v ≤ 4294967295 → v < s.minuteNext →
      Completes (.clockSet tag v) s ({ s with clock := v }.answered tag (.clockSet v) (.done .empty))
        [replyFrame tag (.clockSet v) (.done .empty)]) ∧
    (s.clock ≤ v → v ≤ 4294967295 → s.minuteNext ≤ v →
      let t := minuteExpiry { s.holding tag (.clockSet v) with clock := v }
      Completes (.clockSet tag v) s (t.answered tag (.clockSet v) (.done .empty)) [replyFrame tag (.clockSet v) (.done .empty)] ∧
      t.clock = v ∧ t.minuteNext = v + 60 ∧ t.store.lastStamp = v)

/-- R193: RESTART, with both mixers IDLE or in LOCKOUT, the shuttle IDLE and the Transit Queue empty, empties the Order Queue
and the notice queue, clears the overrun flag, sets the Pour Stations, the Arbiter and the aligners (R129), and starts a
new hunt; it leaves the store, the clock, the bays and the mixers as they are. Otherwise it is refused with BUSY. -/
def Obligations.RestartClearsTheQueues : Prop :=
  ∀ (tag : Nat) (s : State), linkFree s →
    let rest := fun (m : Mixer) => (s.seq m).state = .idle ∨ (s.seq m).state = .lockout
    (rest .a → rest .b → s.shuttle.state = .idle → s.transit = [] →
      ∃ t, exec (.restart tag) s = .next t ∧ t.orders = [] ∧
        t.plantLink = { answering s.plantLink (requested tag .restart) (.done .empty) with notices := [], overrun := false } ∧
        t.stations = { a := PourStation.idle, b := PourStation.idle } ∧ t.spaceList = [] ∧ t.arbiter = Arbiter.idle ∧
        t.stationLink.hunt = some Hunt.first ∧ t.store = s.store ∧ t.clock = s.clock ∧ t.minuteNext = s.minuteNext ∧
        t.bays = s.bays ∧ t.mixers = s.mixers ∧ t.shuttle = s.shuttle ∧ t.transit = [] ∧
        ∀ b, 1 ≤ b → b ≤ 12 →
          ((s.aligner b).state = .unbound → t.aligner b = Aligner.unbound) ∧
          ((s.aligner b).state = .mismatch →
            t.aligner b = { Aligner.unbound with state := .mismatch, offered := (s.aligner b).offered }) ∧
          ((s.aligner b).state ≠ .unbound → (s.aligner b).state ≠ .mismatch →
            t.aligner b =
              { Aligner.unbound with
                state := .syncing
                lateTimer := some (s.oscillator + ((s.settings b).period + (s.settings b).period / 2)) })) ∧
    ((¬ rest .a ∨ ¬ rest .b ∨ s.shuttle.state ≠ .idle ∨ s.transit ≠ []) →
      Completes (.restart tag) s (s.answered tag .restart (.refused .busy .empty)) [])

/-! ### The recipe unit (1) -/

/-- R14, Table 1.3: the dose computation, with its divisions and its cap. -/
def Obligations.DoseComputation : Prop :=
  ∀ (n u band : Nat) (c : ClassRecord), band ≤ 3 →
    let increment := if band = 0 then c.chloride0 else if band = 1 then c.chloride1
      else if band = 2 then c.chloride2 else c.chloride3
    let c' := min 900 (c.cement + increment)
    let B := n * c.castMass
    let D := B * 1000000 / ((1000 + c') * (1000 + c.water) + 1000 * c.chelant)
    let C := D * c' / 1000
    let W := (D + C) * c.water / 1000
    let H := D * c.chelant / 1000
    let A := (D * 1000 + (1000 - u) - 1) / (1000 - u)
    u ≤ 450 →
    computeDoses n c u band = { ash := A, cement := C, water := (W : Int) - ((A : Int) - (D : Int)), chelant := H, mass := B }

/-- R15: the three dose checks, in order; each limit itself is accepted. R16, R17: the targets of an order that passes them
lie within their bounds, ash and cement are at least 1, and the dosed total is at most the batch mass. -/
def Obligations.DoseChecksAndBounds : Prop :=
  (∀ d : Doses,
    (15000 < d.mass → doseRefusal d = some .overMixer) ∧
    (d.mass ≤ 15000 → 4000 < d.cement → doseRefusal d = some .overScale) ∧
    (d.mass ≤ 15000 → d.cement ≤ 4000 → d.water < 0 → doseRefusal d = some .wetLot) ∧
    (d.mass ≤ 15000 → d.cement ≤ 4000 → 0 ≤ d.water → doseRefusal d = none)) ∧
  (∀ (n u band : Nat) (c : ClassRecord), 1 ≤ n → n ≤ 24 → u ≤ 450 → band ≤ 3 → classRanges c = true →
    doseRefusal (computeDoses n c u band) = none →
    let t := (computeDoses n c u band).targets
    1 ≤ t.ash ∧ 1 ≤ t.cement ∧ t.cement ≤ 4000 ∧ t.ash + t.cement + t.water + t.chelant ≤ n * c.castMass ∧
    n * c.castMass ≤ 15000)

/-- R4: a CLASS SET whose number and fields are in range, of a class that is UNDEFINED or not in use, replaces the whole
record and is written; out of range it is refused with RANGE, and DEFINED and in use with IN_USE, with no effect. -/
def Obligations.ClassSetReplacesTheRecord : Prop :=
  ∀ (tag n : Nat) (r : ClassRecord) (s : State), linkFree s →
    (1 ≤ n → n ≤ 6 → classRanges r = true → (s.cls n = none ∨ classInUse n s = false) →
      Completes (.classSet tag n r) s ((write (.cls n (some r)) s).answered tag (.classSet n r) (.done .empty))
        [replyFrame tag (.classSet n r) (.done .empty)]) ∧
    ((n < 1 ∨ 6 < n ∨ classRanges r = false) →
      Completes (.classSet tag n r) s (s.answered tag (.classSet n r) (.refused .range .empty)) []) ∧
    (1 ≤ n → n ≤ 6 → classRanges r = true → (s.cls n).isSome = true → classInUse n s = true →
      Completes (.classSet tag n r) s (s.answered tag (.classSet n r) (.refused .inUse .empty)) [])

/-- R7, R8: LOT DEFINE with u above 450, a band above 3, or a new number outside 1..65,535 is refused with RANGE. Of a new
number with a free entry it puts the OPEN lot there (the lowest free entry: log 18); of a number that a queued order or a
running batch names it is refused with IN_USE; of an OPEN lot it writes the entry again; of a CLOSED lot, and of a new
number with no entry free, where the CLOSED lot of lowest rank gives up its entry, it puts the OPEN lot there and every
CLOSED lot with a higher rank moves down by one (R6); with no entry free and none CLOSED it is refused with FULL.
R9: LOT CLOSE: an unknown number is refused with NO_SUCH and a lot in use with IN_USE; a CLOSED lot is answered DONE and
keeps its rank; an OPEN lot becomes CLOSED with the rank one above the highest in use. -/
def Obligations.LotsAreDefinedAndClosed : Prop :=
  ∀ (tag n u b i rank : Nat) (l : Lot) (s : State), linkFree s →
    let new : Lot := { number := n, moisture := u, band := b, state := .opened }
    let defined := fun (j : Nat) =>
      Completes (.lotDefine tag n u b) s
        ((write (.lot j (some new)) s).answered tag (.lotDefine n u b) (.done (.lot new)))
        [replyFrame tag (.lotDefine n u b) (.done (.lot new))]
    let lowered := fun (x : Lot) => match x.state with
      | .opened => x
      | .closed r => if rank < r then { x with state := .closed (r - 1) } else x
    let reopened :=
      ∃ t, exec (.lotDefine tag n u b) s = .next t ∧ t.lot i = some new ∧
        (∀ j, j ≠ i → t.lot j = (s.lot j).map lowered) ∧
        t.plantLink = answering s.plantLink (requested tag (.lotDefine n u b)) (.done (.lot new)) ∧
        t.store = { s.store with lots := t.store.lots, damaged := t.store.damaged } ∧ t.orders = s.orders
    let refused := fun (x : Reason) =>
      Completes (.lotDefine tag n u b) s (s.answered tag (.lotDefine n u b) (.refused x .empty)) []
    ((450 < u ∨ 3 < b ∨ (findLot n s = none ∧ (n < 1 ∨ 65535 < n))) → refused .range) ∧
    (1 ≤ n → n ≤ 65535 → u ≤ 450 → b ≤ 3 →
      (findLot n s = none → freeLot s = some i → defined i) ∧
      (findLot n s = some (i, l) → 0 < lotUses n s → refused .inUse) ∧
      (findLot n s = some (i, l) → lotUses n s = 0 → l.state = .opened → defined i) ∧
      (findLot n s = some (i, l) → lotUses n s = 0 → l.state = .closed rank → reopened) ∧
      (findLot n s = none → freeLot s = none → rankOf i s = some rank → 1 ≤ rank →
        (∀ j k, j ≠ i → rankOf j s = some k → rank < k) → reopened) ∧
      (findLot n s = none → freeLot s = none → (∀ j, rankOf j s = none) → refused .full)) ∧
    (findLot n s = none →
      Completes (.lotClose tag n) s (s.answered tag (.lotClose n) (.refused .noSuch .empty)) []) ∧
    (findLot n s = some (i, l) → 0 < lotUses n s →
      Completes (.lotClose tag n) s (s.answered tag (.lotClose n) (.refused .inUse .empty)) []) ∧
    (findLot n s = some (i, l) → lotUses n s = 0 → l.state = .closed rank →
      Completes (.lotClose tag n) s (s.answered tag (.lotClose n) (.done .empty)) []) ∧
    (findLot n s = some (i, l) → lotUses n s = 0 → l.state = .opened →
      Completes (.lotClose tag n) s
        ((write (.lot i (some { l with state := .closed (highestRank s + 1) })) s).answered tag (.lotClose n) (.done .empty))
        [replyFrame tag (.lotClose n) (.done .empty)])

/-! ### The Dispatcher (2) -/

/-- R20, R21: an ORDER POST that passes every check joins the tail of the queue with its targets, and the reply carries
them; with no mixer IDLE the scan it calls starts nothing. R24: posted into an empty queue and meeting the three
conditions, it is started by that scan, with the request still in hand. -/
def Obligations.AcceptedOrderJoinsTheTail : Prop :=
  ∀ (tag : Nat) (r : OrderRequest) (l : Lot) (c : ClassRecord) (choice : MixerChoice) (m : Mixer) (slot : Nat)
    (ps : List Nat) (s : State), linkFree s →
    s.orders.length < 16 → orderInUse r.order s = false → openLot r.lot s = some l → s.cls r.cls = some c →
    choiceOfCode r.mixerChoice = some choice → orderRanges r = true →
    let d := computeDoses r.count c l.moisture l.band
    let o := orderRecord r choice d
    doseRefusal d = none →
    ((∀ m, (s.seq m).state ≠ .idle) →
      Completes (.orderPost tag r) s
        ({ s with orders := s.orders ++ [o] }.answered tag (.orderPost r) (.done (.targets d)))
        [replyFrame tag (.orderPost r) (.done (.targets d))]) ∧
    (s.orders = [] → startable o s = some (m, slot, ps) →
      exec (.orderPost tag r) s =
        .next (settle ((startOrder o m slot ps { s.holding tag (.orderPost r) with orders := [o] }).replied tag
          (.orderPost r) (.done (.targets d)))))

/-- R20, Table 2.2: the checks of ORDER POST in order; a refused post changes nothing, and one refused by a dose check
carries the targets (R13). -/
def Obligations.OrderPostChecksInOrder : Prop :=
  ∀ (tag : Nat) (r : OrderRequest) (l : Lot) (c : ClassRecord) (x : Reason) (s : State), linkFree s →
    let refused := fun (y : Reason) (b : Body) =>
      Completes (.orderPost tag r) s (s.answered tag (.orderPost r) (.refused y b)) [replyFrame tag (.orderPost r) (.refused y b)]
    (16 ≤ s.orders.length → refused .full .empty) ∧
    (s.orders.length < 16 → orderInUse r.order s = true → refused .duplicate .empty) ∧
    (s.orders.length < 16 → orderInUse r.order s = false → openLot r.lot s = none → refused .noLot .empty) ∧
    (s.orders.length < 16 → orderInUse r.order s = false → openLot r.lot s = some l → s.cls r.cls = none →
      refused .noClass .empty) ∧
    (s.orders.length < 16 → orderInUse r.order s = false → openLot r.lot s = some l → s.cls r.cls = some c →
      orderRanges r = false → refused .range .empty) ∧
    (s.orders.length < 16 → orderInUse r.order s = false → openLot r.lot s = some l → s.cls r.cls = some c →
      orderRanges r = true → doseRefusal (computeDoses r.count c l.moisture l.band) = some x →
      refused x (.targets (computeDoses r.count c l.moisture l.band)))

/-- R22: ORDER WITHDRAW removes a queued order and answers with its record; a running batch's number is refused with
RUNNING, another with NO_SUCH. -/
def Obligations.OrderWithdrawRemovesAQueuedOrder : Prop :=
  ∀ (tag n : Nat) (o : Order) (s : State), linkFree s →
    (s.orders.find? (fun x => decide (x.number = n)) = some o →
      Completes (.orderWithdraw tag n) s
        ({ s with orders := s.orders.filter fun x => decide (x.number ≠ n) }.answered tag (.orderWithdraw n) (.done (.order o)))
        [replyFrame tag (.orderWithdraw n) (.done (.order o))]) ∧
    ((∀ x ∈ s.orders, x.number ≠ n) → 0 < countRunning (fun r => decide (r.order = some n)) s →
      Completes (.orderWithdraw tag n) s (s.answered tag (.orderWithdraw n) (.refused .running .empty)) []) ∧
    ((∀ x ∈ s.orders, x.number ≠ n) → countRunning (fun r => decide (r.order = some n)) s = 0 →
      Completes (.orderWithdraw tag n) s (s.answered tag (.orderWithdraw n) (.refused .noSuch .empty)) [])

/-- R25: the mixer an order would start on: the one it chooses when that is IDLE; for ANY, A when A is IDLE, else B when B
is IDLE. R26: the reservation walk takes only FREE positions, of bays in EMPTY or FILLING whose aligner is SYNCING or
LOCKED, and never more than the order's cast count. R29: the batch ID given to a new batch lies in 1..65,535 and is held
by no slot. R24: an order with a mixer, a free slot, which is the lowest-numbered, and a walk that holds N positions is
startable. R27: its start takes it from the queue, puts the batch record into the slot, makes the positions of the walk
RESERVED for the batch and no other entry different, makes their EMPTY bays FILLING (auto-seal clear), sets the marker,
makes the mixer CHARGING at ASH with its ash requested, and raises ORDER STARTED. -/
def Obligations.AStartUsesAnIdleMixerAndFreePositions : Prop :=
  ∀ (o : Order) (m : Mixer) (slot : Nat) (ps : List Nat) (s : State),
    (mixerFor .a s = (if (s.seq .a).state = .idle then some .a else none) ∧
      mixerFor .b s = (if (s.seq .b).state = .idle then some .b else none) ∧
      mixerFor .any s =
        (if (s.seq .a).state = .idle then some .a else if (s.seq .b).state = .idle then some .b else none) ∧
      (walk o s).length ≤ o.count ∧
      (∀ p ∈ walk o s, s.entry p = .free ∧
        ∃ b ∈ bayListOf o s, p ∈ (s.settings b).fillOrder ∧ (s.bayState b = .empty ∨ s.bayState b = .filling) ∧
          ((s.aligner b).state = .syncing ∨ (s.aligner b).state = .locked)) ∧
      1 ≤ nextBatchId s ∧ nextBatchId s ≤ 65535 ∧ ∀ k r, s.batch k = some r → r.id ≠ nextBatchId s) ∧
    (mixerFor o.choice s = some m → 1 ≤ slot → slot ≤ 32 → s.batch slot = none →
      (∀ k, 1 ≤ k → k < slot → (s.batch k).isSome = true) → (walk o s).length = o.count →
      startable o s = some (m, slot, walk o s)) ∧
    (startable o s = some (m, slot, ps) →
      let t := startOrder o m slot ps s
      let id := nextBatchId s
      t.orders = s.orders.filter (fun x => decide (x.number ≠ o.number)) ∧
      t.batch slot = some
        { id := id, order := some o.number, lot := some o.lot, cls := some o.cls, mixer := some m, targets := o.targets,
          mass := o.mass, actuals := { ash := none, cement := none, chelant := none, water := none }, reservation := ps,
          poured := 0, rejected := 0, doseDeviation := false, stepped := o.step, damaged := false, start := some s.clock,
          endTime := none, endCause := none, live := 0 } ∧
      (∀ k, k ≠ slot → t.batch k = s.batch k) ∧ t.store.batchCounter = id ∧
      (∀ p, t.entry p = if p ∈ ps then .reserved slot id else s.entry p) ∧
      (∀ p ∈ ps, s.bayState (bayOf p) = .empty → (s.settings (bayOf p)).autoSeal = false →
        t.bayState (bayOf p) = .filling) ∧
      t.marker m = some { slot := slot, batch := id, stage := .ash } ∧
      t.seq m =
        { s.seq m with
          state := .charging, stage := some .ash, saved := none, batch := some { slot := slot, id := id }
          component := some .ash, dosed := 0, topUp := false, cementInDrum := 0, fillsTotal := 0, drive := .agitate
          delivery := some { channel := .ash, amount := o.targets.ash, limit := some (s.oscillator + 300) } } ∧
      t.seq (otherMixer m) = s.seq (otherMixer m) ∧ t.transit = s.transit ∧
      t.plantLink = (raise (.orderStarted o.number id slot m ps) s).plantLink ∧ HallKept s t)

/-! ### The mixers, the scale and the holds (3, 4) -/

/-- R40, R41, R42: the completion of an ash, chelant or water delivery ends it, adds the amount to dosed-so-far, writes the
total into the batch record as the component's actual, and judges the total against the band of Table 3.3: below with the top-up mark clear, one top-up of the shortfall; below with
it set, a hold with UNDERDOSE; above, a hold with OVERDOSE; within, the component is accepted, and an ash then leads to
the scale or, in a stepped batch, to STEP_WAIT (R57). A completion with no such delivery in progress changes nothing. -/
def Obligations.DeliveriesAreJudged : Prop :=
  ∀ (m : Mixer) (d : DoseChannel) (amount slot : Nat) (r : BatchRecord) (s : State), s.powered = true →
    let ch : Channel := match d with | .ash => .ash | .chelant => .chelant | .water => .water
    let c : Component := match d with | .ash => .ash | .chelant => .chelant | .water => .water
    let tolerance := match d with | .ash => 10 | .chelant => 50 | .water => 15
    let target := targetOf m c s
    let total := (s.seq m).dosed + amount
    let lower := target - target * tolerance / 1000
    let upper := target + target * tolerance / 1000
    let dosed := fun (x : State) => charge m c amount (endDelivery m x)
    let st := launchStage (s.seq m)
    (delivering m ch s = false → Completes (.deliveryCompletion m d amount) s s []) ∧
    (delivering m ch s = true →
      (total < lower → (s.seq m).topUp = false →
        Completes (.deliveryCompletion m d amount) s
          (deliver m ch (target - total) (withSeq m (fun x => { x with topUp := true }) (dosed s)))
          [.deliver m ch (target - total)]) ∧
      (total < lower → (s.seq m).topUp = true → holdable (s.seq m).state = true → (s.station m).fill = none →
        Completes (.deliveryCompletion m d amount) s (launchHoldAt m .underdose (some c) st (dosed (begin s))) []) ∧
      (upper < total → holdable (s.seq m).state = true → (s.station m).fill = none →
        Completes (.deliveryCompletion m d amount) s (launchHoldAt m .overdose (some c) st (dosed (begin s))) []) ∧
      (lower ≤ total → total ≤ upper →
        Completes (.deliveryCompletion m d amount) s (accept m c (dosed (begin s))) [])) ∧
    (batchOf m s = some (slot, r) →
      let t := dosed s
      let actuals := match d with
        | .ash => { r.actuals with ash := some total }
        | .chelant => { r.actuals with chelant := some total }
        | .water => { r.actuals with water := some total }
      t.seq m = { s.seq m with delivery := none, dosed := total } ∧
      t.batch slot = some { r with actuals := actuals } ∧ (∀ j, j ≠ slot → t.batch j = s.batch j) ∧
      t.store.entries = s.store.entries ∧ t.store.markers = s.store.markers ∧ t.arbiter = s.arbiter ∧ HallKept s t) ∧
    (stepped m s = false → accept m .ash s = enterCement m (withSeq m (fun x => { x with component := none }) s)) ∧
    (stepped m s = true →
      accept m .ash s = stepWait m .ash (.stage .cement) (withSeq m (fun x => { x with component := none }) s))

/-- R47, R48, R46: a cement weighing, which is the holder's (log 33), is judged on the cement in drum plus the cement on the
scale, with the band of cement: within, the discharge of what lies on the scale is issued (log 12); below, one top-up
weighing, then UNDERDOSE; above, OVERDOSE. The discharge's completion adds what left the scale to the cement in drum,
which becomes the dosed-so-far and the batch record's actual cement, and releases the grant to the head of the waiting list, with nothing on the scale (log 12); then the
pending hold is launched at LIQUIDS, or the stage completes. -/
def Obligations.CementIsWeighedAndDischarged : Prop :=
  ∀ (amount slot : Nat) (m k : Mixer) (rest : List Mixer) (p : PendingHold) (r : BatchRecord) (s : State),
    s.powered = true →
    let target := targetOf m .cement s
    let onScale := s.arbiter.onScale + amount
    let there := (s.seq m).cementInDrum + onScale
    let weighed := fun (x : State) => { endDelivery m x with arbiter := { s.arbiter with onScale := onScale } }
    let st := launchStage (s.seq m)
    let lower := target - target * 10 / 1000
    let upper := target + target * 30 / 1000
    (s.arbiter.holder = none → Completes (.cementWeighingCompletion amount) s s []) ∧
    (s.arbiter.holder = some m → delivering m .weighing s = true →
      (lower ≤ there → there ≤ upper →
        Completes (.cementWeighingCompletion amount) s (deliver m .discharge onScale (weighed s))
          [.deliver m .discharge onScale]) ∧
      (there < lower → (s.seq m).topUp = false →
        Completes (.cementWeighingCompletion amount) s
          (deliver m .weighing (target - there) (withSeq m (fun x => { x with topUp := true }) (weighed s)))
          [.deliver m .weighing (target - there)]) ∧
      (there < lower → (s.seq m).topUp = true → holdable (s.seq m).state = true → (s.station m).fill = none →
        Completes (.cementWeighingCompletion amount) s
          (launchHoldAt m .underdose (some .cement) st (weighed (begin s))) []) ∧
      (upper < there → holdable (s.seq m).state = true → (s.station m).fill = none →
        Completes (.cementWeighingCompletion amount) s
          (launchHoldAt m .overdose (some .cement) st (weighed (begin s))) [])) ∧
    (let poured := releaseGrant (withSeq m (fun x => { x with component := none }) (chargeCement m amount (endDelivery m (begin s))))
      let timed := if targetOf m .chelant s = 0 ∧ targetOf m .water s = 0 then startPotLife m poured else poured
      delivering m .discharge s = true →
        ((s.seq m).pendingHold = some p →
          Completes (.cementDischargeCompletion m amount) s (launchHoldAt m p.cause p.component .liquids timed) []) ∧
        ((s.seq m).pendingHold = none → stepped m s = true →
          Completes (.cementDischargeCompletion m amount) s (stepWait m .cement (.stage .liquids) timed) []) ∧
        ((s.seq m).pendingHold = none → stepped m s = false →
          Completes (.cementDischargeCompletion m amount) s (enterLiquids m timed) [])) ∧
    (delivering m .discharge s = false → Completes (.cementDischargeCompletion m amount) s s []) ∧
    (batchOf m s = some (slot, r) →
      let t := chargeCement m amount (endDelivery m s)
      let drum := (s.seq m).cementInDrum + amount
      t.seq m = { s.seq m with delivery := none, cementInDrum := drum, dosed := drum } ∧
      t.batch slot = some { r with actuals := { r.actuals with cement := some drum } } ∧
      (∀ j, j ≠ slot → t.batch j = s.batch j) ∧ t.store.entries = s.store.entries ∧
      t.store.markers = s.store.markers ∧ t.arbiter = s.arbiter ∧ HallKept s t) ∧
    (s.arbiter.waiting = [] → releaseGrant s = { s with arbiter := { holder := none, waiting := [], onScale := 0 } }) ∧
    (s.arbiter.waiting = k :: rest →
      (releaseGrant s).arbiter = { holder := some k, waiting := rest, onScale := 0 } ∧
      ((releaseGrant s).seq k).delivery =
        some { channel := .weighing, amount := targetOf k .cement s - (s.seq k).cementInDrum,
               limit := some (s.oscillator + 180) })

/-- R52, R57: the mix timer's expiry, once its time has been reached and not before (log 3), sends the drive to AGITATE and
completes stage MIX: a stepped batch enters STEP_WAIT with POUR saved, another enters POUR. R55, R79, R80, R82: with casts
to pour, contents of half a cast mass or more and a place free, the mixer is POURING and its station has claimed a place
and called a mold for 60 s, a time of the oscillator (log 2). -/
def Obligations.MixTimerExpiryLeadsToThePour : Prop :=
  ∀ (m : Mixer) (s : State),
    let expired := due s.oscillator (s.seq m).mixTimer
    let mixed := withSeq m (fun x => { x with mixTimer := none }) (setDrive m .agitate (begin s))
    (s.powered = true → expired = false → Completes (.mixTimerExpiry m) s s []) ∧
    (s.powered = true → expired = true → stepped m s = true →
      Completes (.mixTimerExpiry m) s (stepWait m .mix (.stage .pour) mixed) []) ∧
    (s.powered = true → expired = true → stepped m s = false → Completes (.mixTimerExpiry m) s (enterPour m mixed) []) ∧
    (poured m s < castCount m s → classField m (·.castMass) s / 2 ≤ contents m s → (s.station m).tagWrite = none →
      placeFree s = true → s.spaceList = [] →
      let t := enterPour m s
      (t.seq m).state = .pouring ∧ (t.seq m).stage = some .pour ∧ (t.seq m).drive = .agitate ∧
      t.station m =
        { s.station m with
          castIndex := some (poured m s + 1), claim := true, spaceWait := none, step := .mold
          moldCall := some (s.oscillator + 60) } ∧
      t.store.entries = s.store.entries ∧ t.store.batches = s.store.batches ∧ t.transit = s.transit ∧ HallKept s t)

/-- R58: MIXER STEP naming another mixer than A or B is refused with RANGE, and of a mixer that is not in STEP_WAIT with
STATE. In STEP_WAIT the mixer enters the saved stage, or goes on with the batch end (`finishBatch`, whose effect the
statement FillCompletionCreatesTheCast gives); the reply is DONE. A stage entered
is the one saved: CEMENT requests the scale, MIX runs the mix timer, and POUR, with a cast to pour and a place free, calls
a mold, until a time of the oscillator (log 2), each with no stage saved. R49: LIQUIDS doses chelant; with a chelant target of 0 its actual is 0 and water is
dosed; with both targets 0 both actuals are 0 and the stage completes, into MIX or, in a stepped batch, STEP_WAIT.
R50: the request for water starts the pot-life timer, at the pot life of the class in minutes, unless it was started
before; an accepted chelant is followed by water, or starts the timer where no water follows. -/
def Obligations.MixerStepEntersTheSavedStage : Prop :=
  ∀ (tag code slot : Nat) (m : Mixer) (st : Stage) (r : BatchRecord) (s : State),
    let q := Request.mixerStep code
    let x := s.holding tag q
    let chelant := targetOf m .chelant s
    let water := targetOf m .water s
    let kept := (s.seq m).potLife
    let started := if kept = .notStarted then PotLife.running (s.oscillator + classField m (·.potLife) s * 60) else kept
    let mixing := fun (t : State) =>
      (t.seq m).state = .mixing ∧ (t.seq m).stage = some .mix ∧ (t.seq m).saved = none ∧ (t.seq m).drive = .mix ∧
      (t.seq m).component = none ∧ (t.seq m).mixTimer = some (s.oscillator + classField m (·.mixTime) s)
    let dosing := fun (c : Component) (ch : Channel) (amount : Nat) (t : State) =>
      (t.seq m).component = some c ∧ (t.seq m).dosed = 0 ∧ (t.seq m).topUp = false ∧
      (t.seq m).delivery = some { channel := ch, amount := amount, limit := some (s.oscillator + 120) }
    let liquids := enterStage m .liquids s
    let inLiquids := (liquids.seq m).state = .charging ∧ (liquids.seq m).stage = some .liquids ∧ (liquids.seq m).saved = none
    let accepted := accept m .chelant s
    (linkFree s → mixerOfCode code = none →
      Completes (.mixerStep tag code) s (s.answered tag q (.refused .range .empty)) []) ∧
    (linkFree s → mixerOfCode code = some m → (s.seq m).state ≠ .stepWait →
      Completes (.mixerStep tag code) s (s.answered tag q (.refused .state .empty)) []) ∧
    (linkFree s → mixerOfCode code = some m → (s.seq m).state = .stepWait → (s.seq m).saved = some (.stage st) →
      exec (.mixerStep tag code) s = .next (settle ((enterStage m st x).replied tag q (.done .empty)))) ∧
    (linkFree s → mixerOfCode code = some m → (s.seq m).state = .stepWait → (s.seq m).saved = some .batchEnd →
      exec (.mixerStep tag code) s =
        .next (settle ((finishBatch m (withSeq m (fun y => { y with saved := none }) x)).replied tag q (.done .empty)))) ∧
    mixing (enterStage m .mix s) ∧
    (s.arbiter = Arbiter.idle →
      let t := enterStage m .cement s
      (t.seq m).state = .charging ∧ (t.seq m).stage = some .cement ∧ (t.seq m).saved = none ∧ t.arbiter.holder = some m) ∧
    (poured m s < castCount m s → classField m (·.castMass) s / 2 ≤ contents m s → (s.station m).tagWrite = none →
      placeFree s = true → s.spaceList = [] →
      let t := enterStage m .pour s
      (t.seq m).state = .pouring ∧ (t.seq m).stage = some .pour ∧ (t.seq m).saved = none ∧
      (t.station m).castIndex = some (poured m s + 1) ∧ (t.station m).moldCall = some (s.oscillator + 60)) ∧
    (chelant ≠ 0 → inLiquids ∧ dosing .chelant .chelant chelant liquids ∧ (liquids.seq m).potLife = kept) ∧
    (batchOf m s = some (slot, r) → chelant = 0 → water ≠ 0 →
      inLiquids ∧ dosing .water .water water liquids ∧ (liquids.seq m).potLife = started ∧
      liquids.batch slot = some { r with actuals := { r.actuals with chelant := some 0 } }) ∧
    (batchOf m s = some (slot, r) → chelant = 0 → water = 0 →
      (liquids.seq m).potLife = kept ∧
      liquids.batch slot = some { r with actuals := { r.actuals with chelant := some 0, water := some 0 } } ∧
      (r.stepped = false → mixing liquids) ∧
      (r.stepped = true →
        (liquids.seq m).state = .stepWait ∧ (liquids.seq m).stage = none ∧
        (liquids.seq m).saved = some (.stage .mix) ∧ (liquids.seq m).drive = .agitate)) ∧
    (water ≠ 0 → dosing .water .water water accepted ∧ (accepted.seq m).potLife = started) ∧
    (water = 0 → (accepted.seq m).potLife = started)

/-- R64, Table 4.3: what the launch of a hold makes of the mixer: HELD, blocked, with no delivery, mix timer, saved stage or
pending hold, the drive at AGITATE, the pot-life timer, the component, its top-up mark and the in-progress marker kept,
the scale given up, and the hold record of Table 4.2. A launch with no delivery in progress, or during a weighing, leaves
dosed-so-far and the cement in drum as they were. -/
def Obligations.HoldLaunchFollowsTable : Prop :=
  ∀ (m : Mixer) (cause : HoldCause) (named : Option Component) (st : Stage) (s : State),
    (∀ d, (s.seq m).delivery = some d → d.channel ≠ .reject) →
    let q := s.seq m
    let t := launchHoldAt m cause named st s
    let component := if st = .mix ∨ st = .pour ∨ st = .discharging then none
      else if named.isSome then named else q.component
    (t.seq m).state = .held ∧ (t.seq m).blocked = true ∧ (t.seq m).stage = none ∧ (t.seq m).delivery = none ∧
    (t.seq m).mixTimer = none ∧ (t.seq m).saved = none ∧ (t.seq m).pendingHold = none ∧ (t.seq m).drive = .agitate ∧
    (t.seq m).potLife = q.potLife ∧ (t.seq m).component = q.component ∧ (t.seq m).topUp = q.topUp ∧
    t.marker m = s.marker m ∧ t.arbiter.holder ≠ some m ∧ m ∉ t.arbiter.waiting ∧
    (t.seq m).hold = some
      { cause := cause, component := component, stage := st, dosed := component.map fun _ => (t.seq m).dosed,
        poured := poured m s, time := s.clock } ∧
    ((q.delivery = none ∨ ∃ d, q.delivery = some d ∧ d.channel = .weighing) →
      (t.seq m).dosed = q.dosed ∧ (t.seq m).cementInDrum = q.cementInDrum ∧ t.store = s.store) ∧
    t.store.entries = s.store.entries ∧ t.transit = s.transit ∧ t.orders = s.orders ∧ HallKept s t

/-- Table 4.1, R62, R69: the commands that launch a hold on a running mixer with no fill and no cement discharge in flight,
each with its cause and component: MIXER HOLD, the time limits of Table 3.2, the motor overload, the space wait and the
mold call, the last two counted on the oscillator (log 2); a time limit launches once its time has been reached and not
before (log 3). With one in flight the cause becomes the pending hold, and a second cause is not kept. The time limit of a cement discharge itself launches at stage CEMENT (R48), and so with a hold
pending (log 24). An overload input that stands asserted, or that clears, raises no event (R53, log 10). -/
def Obligations.CausesLaunchHolds : Prop :=
  ∀ (tag code : Nat) (m : Mixer) (d : Delivery) (k : HoldCause) (c : Component) (s : State), s.powered = true →
    let st := launchStage (s.seq m)
    let running := holdable (s.seq m).state = true ∧ inFlight m s = false
    let q := Request.mixerHold code
    (linkFree s → mixerOfCode code = some m → running →
      Completes (.mixerHold tag code) s ((launchHoldAt m .operator none st (s.holding tag q)).answered tag q (.done .empty)) []) ∧
    (linkFree s → mixerOfCode code = some m → holdable (s.seq m).state = true → inFlight m s = true →
      (s.seq m).pendingHold = none →
      Completes (.mixerHold tag code) s
        ((withSeq m (fun x => { x with pendingHold := some { cause := .operator, component := none } }) s).answered tag q .taken)
        []) ∧
    (linkFree s → mixerOfCode code = some m → holdable (s.seq m).state = true → inFlight m s = true →
      (s.seq m).pendingHold ≠ none → Completes (.mixerHold tag code) s (s.answered tag q .taken) []) ∧
    (linkFree s → mixerOfCode code = some m → holdable (s.seq m).state = false →
      Completes (.mixerHold tag code) s (s.answered tag q (.refused .state .empty)) []) ∧
    (linkFree s → mixerOfCode code = none →
      Completes (.mixerHold tag code) s (s.answered tag q (.refused .range .empty)) []) ∧
    (running → (s.seq m).delivery = some d → due s.oscillator d.limit = true →
      (d.channel, k, c) ∈
        [(Channel.ash, HoldCause.feederTimeout, Component.ash), (.weighing, .scaleTimeout, .cement),
         (.chelant, .meterTimeout, .chelant), (.water, .meterTimeout, .water)] →
      Completes (.deliveryTimeLimit m) s (launchHoldAt m k (some c) st (begin s)) []) ∧
    ((s.seq m).delivery = some d → due s.oscillator d.limit = true → d.channel = .discharge →
      Completes (.deliveryTimeLimit m) s (launchHoldAt m .scaleTimeout (some .cement) .cement (begin s)) []) ∧
    ((∀ x, (s.seq m).delivery = some x → due s.oscillator x.limit = false) →
      Completes (.deliveryTimeLimit m) s s []) ∧
    (running → (s.seq m).overloadInput = false →
      Completes (.motorOverload m true) s
        (launchHoldAt m .motorOverload none st (withSeq m (fun x => { x with overloadInput := true }) (begin s))) []) ∧
    (holdable (s.seq m).state = true → inFlight m s = true → (s.seq m).overloadInput = false →
      (s.seq m).pendingHold = none →
      Completes (.motorOverload m true) s
        (withSeq m (fun x =>
          { x with overloadInput := true, pendingHold := some { cause := .motorOverload, component := none } }) s) []) ∧
    (holdable (s.seq m).state = true → inFlight m s = true → (s.seq m).pendingHold ≠ none →
      Completes (.motorOverload m true) s (withSeq m (fun x => { x with overloadInput := true }) s) []) ∧
    ((s.seq m).overloadInput = true → Completes (.motorOverload m true) s s []) ∧
    Completes (.motorOverload m false) s (withSeq m (fun x => { x with overloadInput := false }) s) [] ∧
    (running → due s.oscillator (s.station m).spaceWait = true →
      Completes (.spaceWaitExpiry m) s
        (launchHoldAt m .transitFull none st
          (withStation m (fun x => { x with spaceWait := none })
            { begin s with spaceList := s.spaceList.filter fun x => decide (x ≠ m) })) []) ∧
    (running → due s.oscillator (s.station m).moldCall = true →
      Completes (.moldCallTimeout m) s (launchHoldAt m .noMold none st (begin s)) []) ∧
    (due s.oscillator (s.station m).spaceWait = false → Completes (.spaceWaitExpiry m) s s []) ∧
    (due s.oscillator (s.station m).moldCall = false → Completes (.moldCallTimeout m) s s [])

/-- R67: a motor overload or the pot-life expiry of a HELD mixer locks it out: the lockout record, the drive and the pot-life
timer stopped, blocked, LOCKOUT, with the hold record kept and MIXER LOCKOUT raised. R51, R59, R74: the pot-life expiry of
a running mixer with no fill in flight, and MIXER ABANDON of a HELD one, stop the delivery and enter DISCHARGING, with one
reject discharge of the contents (log 43) and the cause of the end kept (log 12); during a fill the expiry waits. The
expiry acts once its time has been reached and not before (log 3); the overload acts at the change of its input to
asserted (log 10). -/
def Obligations.LockoutAndDischarging : Prop :=
  ∀ (tag code : Nat) (m : Mixer) (second : SecondCause) (cause : EndCause) (h : HoldRecord) (b : BatchRef) (s : State),
    s.powered = true →
    let st := (s.seq m).state
    let expired := due s.oscillator (s.seq m).potLife.expiry?
    ((s.seq m).hold = some h →
      let t := lockOut m second s
      t = { s with mixers := t.mixers, plantLink := t.plantLink, outputs := t.outputs } ∧
      t.mixers = s.mixers.put m
        { s.seq m with
          lockout := some { second := second, time := s.clock }, drive := .stopped, potLife := .stopped, blocked := true,
          state := .lockout } ∧
      t.plantLink = (raise (.mixerLockout m (batchId m s) (orderNumber m s) second s.clock h.cause h.stage) s).plantLink) ∧
    (let t := dischargeNow m cause s;
      (t.seq m).state = .discharging ∧ (t.seq m).stage = none ∧ (t.seq m).potLife = .stopped ∧ (t.seq m).mixTimer = none ∧
      (t.seq m).saved = none ∧ (t.seq m).pendingHold = none ∧ (t.seq m).pendingExpiry = false ∧
      (t.seq m).drive = .agitate ∧ (t.seq m).dischargeCause = some cause ∧ (t.seq m).hold = (s.seq m).hold ∧
      (t.seq m).delivery = some { channel := .reject, amount := contents m (stopDelivery m s), limit := none } ∧
      ((s.seq m).batch = some b → t.marker m = some { slot := b.slot, batch := b.id, stage := .discharging }) ∧
      t.store.entries = s.store.entries) ∧
    (expired = true → st = .held → Completes (.potLifeExpiry m) s (lockOut m .potLife (begin s)) []) ∧
    (st = .held → (s.seq m).overloadInput = false →
      Completes (.motorOverload m true) s
        (lockOut m .motorOverload (withSeq m (fun x => { x with overloadInput := true }) (begin s))) []) ∧
    (expired = true →
      (st = .charging ∨ st = .mixing ∨ st = .stepWait ∨ (st = .pouring ∧ (s.station m).fill = none)) →
      Completes (.potLifeExpiry m) s (dischargeNow m .potLife (begin s)) []) ∧
    (expired = true → st = .pouring → (s.station m).fill.isSome = true →
      Completes (.potLifeExpiry m) s (withSeq m (fun x => { x with pendingExpiry := true }) s) []) ∧
    (expired = false → Completes (.potLifeExpiry m) s s []) ∧
    (((s.seq m).potLife = .notStarted ∨ (s.seq m).potLife = .stopped) → expired = false) ∧
    (∀ e, (s.seq m).potLife = .running e → (expired = true ↔ e ≤ s.oscillator)) ∧
    (linkFree s → mixerOfCode code = some m →
      let q := Request.mixerAbandon code
      (st = .held →
        Completes (.mixerAbandon tag code) s
          ((dischargeNow m .abandoned (withSeq m (fun x => { x with blocked := false }) (s.holding tag q))).answered tag q .taken)
          []) ∧
      (st ≠ .held → Completes (.mixerAbandon tag code) s (s.answered tag q (.refused .state .empty)) []))

/-- R70: MIXER RESUME of a HELD mixer reads and clears the hold record and the blocked marker, enters the stage at launch and
rewrites the in-progress marker with it; of any other mixer it is refused with STATE, and of a name other than A or B with
RANGE. R71: in ASH or LIQUIDS a component short of its target is continued for the rest, with the top-up mark as it
stands; one at its target is accepted at once where it is not above its band, or where the hold was an OVERDOSE naming it,
and the stage goes on; one above its band after another cause is held again with OVERDOSE; LIQUIDS with no component in
course begins with chelant. R72: CEMENT, with its top-up mark cleared, requests the scale for the cement still missing, or
waits in the list; MIX runs its full mix time again; POUR begins the cycle of the next cast, with the consecutive-unreadable
count 0, or after the last cast ends, with what is left in the drum reckoned before the batch end (log 43). R73: a resumed OVERDOSE sets the batch's dose-deviation flag and gives DOSE to
the batch's casts that are not assessed, which makes those in their positions HELD; after another cause the casts and the
flag are as before. R53: where the overload input stands asserted the mixer, which has no delivery and no fill in progress
in HELD (R62, R64), is always held again with MOTOR_OVERLOAD, in the stage at launch, with the marker rewritten and the drive
at AGITATE; never is it locked out. Where R71 and R72 would end the stage, or hold the mixer again with OVERDOSE, the look
comes before them: the component in course is kept as it stands, and a POUR does not end its batch (log 25). A mold call
that a POUR opens has its time on the oscillator (log 2). -/
def Obligations.MixerResumeGoesBackIntoItsStage : Prop :=
  ∀ (tag code slot tolerance : Nat) (m : Mixer) (h : HoldRecord) (st : Stage) (c : Component) (ch : Channel)
    (b : BatchRef) (r : BatchRecord) (s : State),
    let q := Request.mixerResume code
    let t := resume m h s
    let dosed := (s.seq m).dosed
    let target := targetOf m c s
    let clear := (s.seq m).overloadInput = false ∧ (s.seq m).batch = some b
    let still := (s.station m).fill = none ∧ (s.seq m).delivery = none
    let asserted := (s.seq m).overloadInput = true ∧ still
    let back : Sequencer := { s.seq m with hold := none, blocked := false, saved := none }
    let marked := fun (st : Stage) => t.marker m = some { slot := b.slot, batch := b.id, stage := st }
    let asked := fun (ch : Channel) (amount limit : Nat) =>
      some ({ channel := ch, amount := amount, limit := some (s.oscillator + limit) } : Delivery)
    let waits := fun (saved : Stage) =>
      (t.seq m).state = .stepWait ∧ (t.seq m).saved = some (.stage saved) ∧ (t.seq m).delivery = (s.seq m).delivery
    let heldAgain := fun (cause : HoldCause) (component : Option Component) (st : Stage) =>
      (t.seq m).state = .held ∧ (t.seq m).blocked = true ∧ (t.seq m).delivery = none ∧ (t.seq m).mixTimer = none ∧
      (t.seq m).hold = some
        { cause := cause, component := component, stage := st, dosed := component.map fun _ => (t.seq m).dosed,
          poured := poured m s, time := s.clock }
    let inCourse := (s.seq m).component = some c ∧ h.stage = st ∧
      (st, c, ch, tolerance) ∈
        [(Stage.ash, Component.ash, Channel.ash, 10), (.liquids, .chelant, .chelant, 50), (.liquids, .water, .water, 15)]
    let above := target + target * tolerance / 1000 < dosed
    let excused := h.cause = .overdose ∧ h.component = some c
    let accepted := target ≤ dosed ∧ (¬ above ∨ excused)
    let canPour := poured m s < castCount m s ∧ classField m (·.castMass) s / 2 ≤ contents m s ∧
      (s.station m).tagWrite = none ∧ placeFree s = true ∧ s.spaceList = []
    -- the request
    (linkFree s → mixerOfCode code = none →
      Completes (.mixerResume tag code) s (s.answered tag q (.refused .range .empty)) []) ∧
    (linkFree s → mixerOfCode code = some m → (s.seq m).state ≠ .held →
      Completes (.mixerResume tag code) s (s.answered tag q (.refused .state .empty)) []) ∧
    (linkFree s → mixerOfCode code = some m → (s.seq m).state = .held → (s.seq m).hold = some h →
      Completes (.mixerResume tag code) s ((resume m h (s.holding tag q)).answered tag q (.done .empty)) []) ∧
    -- R71: ash, chelant, water
    (clear → inCourse → dosed < target →
      t.seq m =
        { back with
          state := .charging, stage := some st
          delivery := asked ch (target - dosed) (if st = .ash then 300 else 120) } ∧
      marked st) ∧
    (clear → inCourse → accepted → c = .ash →
      (stepped m s = true → waits .cement) ∧
      (stepped m s = false → s.arbiter.holder = none →
        (t.seq m).state = .charging ∧ (t.seq m).stage = some .cement ∧ t.arbiter.holder = some m ∧ marked .cement)) ∧
    (clear → inCourse → accepted → c = .chelant → targetOf m .water s ≠ 0 →
      (t.seq m).state = .charging ∧ (t.seq m).stage = some .liquids ∧ (t.seq m).component = some .water ∧
      (t.seq m).dosed = 0 ∧ (t.seq m).delivery = asked .water (targetOf m .water s) 120 ∧ marked .liquids) ∧
    (clear → inCourse → accepted → c = .water →
      (stepped m s = true → waits .mix) ∧
      (stepped m s = false →
        (t.seq m).state = .mixing ∧ (t.seq m).stage = some .mix ∧
        (t.seq m).mixTimer = some (s.oscillator + classField m (·.mixTime) s) ∧ marked .mix)) ∧
    (clear → inCourse → still → target ≤ dosed → above → ¬ excused →
      heldAgain .overdose (some c) st ∧ marked st) ∧
    (clear → h.stage = .liquids → (s.seq m).component = none → targetOf m .chelant s ≠ 0 →
      t.seq m =
        { back with
          state := .charging, stage := some .liquids, component := some .chelant, dosed := 0, topUp := false
          delivery := asked .chelant (targetOf m .chelant s) 120 } ∧
      marked .liquids) ∧
    -- R72: cement, mix, pour
    (clear → h.stage = .cement → s.arbiter.holder = none →
      t.seq m =
        { back with
          state := .charging, stage := some .cement, topUp := false, component := some .cement
          dosed := if (s.seq m).component = some .cement then dosed else 0
          delivery := asked .weighing (targetOf m .cement s - (s.seq m).cementInDrum) 180 } ∧
      t.arbiter = { holder := some m, waiting := s.arbiter.waiting, onScale := 0 } ∧ marked .cement) ∧
    (clear → h.stage = .cement → s.arbiter.holder = some (otherMixer m) → m ∉ s.arbiter.waiting →
      t.seq m = { back with state := .charging, stage := some .cement, topUp := false } ∧
      t.arbiter = { s.arbiter with waiting := s.arbiter.waiting ++ [m] } ∧ marked .cement) ∧
    (clear → h.stage = .mix →
      t.seq m =
        { back with
          state := .mixing, stage := some .mix, component := none, drive := .mix
          mixTimer := some (s.oscillator + classField m (·.mixTime) s) } ∧
      marked .mix) ∧
    (clear → h.stage = .pour → canPour →
      t.seq m = { back with state := .pouring, stage := some .pour, component := none, drive := .agitate } ∧
      t.station m =
        { s.station m with
          unreadable := 0, castIndex := some (poured m s + 1), claim := true, spaceWait := none, step := .mold
          moldCall := some (s.oscillator + 60) } ∧
      marked .pour) ∧
    (clear → h.stage = .pour → poured m s = castCount m s →
      (stepped m s = true → (t.seq m).state = .stepWait ∧ (t.seq m).saved = some .batchEnd) ∧
      (stepped m s = false → s.orders = [] →
        (t.seq m).state = (if 0 < contents m s then .discharging else .idle))) ∧
    -- R53: the overload input asserted
    (asserted → h.stage ≠ .discharging →
      heldAgain .motorOverload (if h.stage = .mix ∨ h.stage = .pour then none else (t.seq m).component) h.stage ∧
      (t.seq m).drive = .agitate ∧ t.arbiter.holder ≠ some m ∧ ((s.seq m).batch = some b → marked h.stage)) ∧
    (asserted → inCourse → dosed < target → (t.seq m).component = some c) ∧
    (asserted → inCourse → target ≤ dosed → ((above ∧ ¬ excused) ∨ c ≠ .chelant) →
      (t.seq m).component = some c ∧ (t.seq m).dosed = dosed) ∧
    (asserted → inCourse → accepted → c = .chelant → targetOf m .water s ≠ 0 → (t.seq m).component = some .water) ∧
    (asserted → h.stage = .pour →
      (t.station m).claim = false ∧ (t.station m).moldCall = none ∧ (t.station m).unreadable = 0 ∧
      (h.cause ≠ .overdose → t.store.batches = s.store.batches ∧ t.store.entries = s.store.entries)) ∧
    -- R73: the dose deviation
    (batchOf m s = some (slot, r) →
      let stays := (s.seq m).overloadInput = true ∨ h.stage ≠ .pour ∨ r.live ≠ 0 ∨
        (poured m s < castCount m s ∧ classField m (·.castMass) s / 2 ≤ contents m s)
      (stays → ∃ x, t.batch slot = some x ∧ x.id = r.id ∧
        x.doseDeviation = (r.doseDeviation || decide (h.cause = .overdose))) ∧
      (h.cause ≠ .overdose → ∀ p, t.castAt p = s.castAt p) ∧
      (h.cause = .overdose → ∀ p c, s.castAt p = some c →
        let new := { c with causes := { c.causes with dose := true } }
        ((c.slot ≠ slot ∨ c.batch ≠ r.id ∨ c.flags.assessed = true) → t.castAt p = some c) ∧
        (c.slot = slot → c.batch = r.id → c.flags.assessed = false → c.state.credited = false → t.castAt p = some new) ∧
        (c.slot = slot → c.batch = r.id → c.flags.assessed = false → c.state.credited = true →
          t.castAt p = some (evaluateCast (s.cls c.cls) s.clock new) ∧ (t.castAt p).map (·.state) = some .held)))

/-- R75, R59, R31, R32: MIXER CLEAR of a mixer in LOCKOUT, and the completion of the reject discharge, end a running batch,
with LOCKOUT or with the cause of the discharge (kept by the sequencer: log 12), and take the mixer to IDLE; a batch that
has ended, or that no record holds, is left as it is. The mixer in IDLE has its drive STOPPED, no batch, no records and its
in-progress marker clear, and what an IDLE mixer keeps of its dosing is the model's (log 34); the Dispatcher then runs.
With no order waiting: the end makes the positions still RESERVED for the batch FREE, those of its reservation list or, of
a damaged placeholder, all of them, and no other entry differs; the record takes the end time and cause while it has a
live cast, and its slot is freed when it has none (R33). -/
def Obligations.MixersReturnToIdle : Prop :=
  ∀ (tag code slot : Nat) (m : Mixer) (r : BatchRecord) (cause : EndCause) (s : State),
    let q := Request.mixerClear code
    let ended := ∀ k x, batchOf m s = some (k, x) → x.endTime.isSome = true
    (linkFree s → mixerOfCode code = some m → (s.seq m).state = .lockout →
      let x := s.holding tag q
      (ended → Completes (.mixerClear tag code) s ((enterIdle m x).answered tag q (.done .empty)) []) ∧
      (batchOf m s = some (slot, r) → r.endTime = none →
        Completes (.mixerClear tag code) s ((enterIdle m (batchEnd slot .lockout x)).answered tag q (.done .empty)) [])) ∧
    (linkFree s → mixerOfCode code = some m → (s.seq m).state ≠ .lockout →
      Completes (.mixerClear tag code) s (s.answered tag q (.refused .state .empty)) []) ∧
    (s.powered = true → delivering m .reject s = true →
      let x := endDelivery m (begin s)
      (ended → Completes (.rejectDischargeCompletion m) s (enterIdle m x) []) ∧
      (batchOf m s = some (slot, r) → r.endTime = none →
        Completes (.rejectDischargeCompletion m) s
          (enterIdle m (batchEnd slot ((s.seq m).dischargeCause.getD .abandoned) x)) [])) ∧
    (s.powered = true → delivering m .reject s = false → Completes (.rejectDischargeCompletion m) s s []) ∧
    enterIdle m s = dispatch { enterIdle m { s with orders := [] } with orders := s.orders } ∧
    (s.orders = [] →
      let t := enterIdle m s
      t.seq m =
        { s.seq m with
          state := .idle, stage := none, batch := none, component := none, cementInDrum := 0, delivery := none,
          potLife := .notStarted, mixTimer := none, saved := none, pendingHold := none, pendingExpiry := false, hold := none,
          lockout := none, blocked := false, drive := .stopped, fillsTotal := 0, dischargeCause := none } ∧
      t.marker m = none ∧ (t.station m).unreadable = 0 ∧ t.seq (otherMixer m) = s.seq (otherMixer m) ∧
      t.store.entries = s.store.entries ∧ t.store.batches = s.store.batches ∧ t.store.settings = s.store.settings ∧
      HallKept s t) ∧
    (s.orders = [] → s.batch slot = some r →
      let t := batchEnd slot cause s
      t.batch slot = (if r.live = 0 then none else some { r with endTime := some s.clock, endCause := some cause }) ∧
      (∀ k, k ≠ slot → t.batch k = s.batch k) ∧
      (∀ p, t.entry p =
        if s.entry p = .reserved slot r.id ∧ (r.damaged = true ∨ p ∈ r.reservation) then .free else s.entry p) ∧
      t.mixers = s.mixers ∧ t.store.markers = s.store.markers ∧ HallKept s t)

/-! ### The Pour Stations and the shuttle (5) -/

/-- R82, R83, R84, Table 5.1: a mold that arrives for an open call is read; one with no call is passed on and changes nothing.
A first or second no-read is read again; the third rejects the mold, with TAG_FAIL at the third unreadable mold in a row.
A READY mold whose type agrees with the class pattern is filled, to the cast mass or, for the last cast, to the contents
capped at eleven tenths of it (R85); another is rejected, and the next is called, until a time of the oscillator (log 2).
A tag read result in another step than READ changes nothing, and an arrival or a result is taken for the call or the mold now
there, since it names none (log 45). -/
def Obligations.MoldsAreReadAndJudged : Prop :=
  ∀ (m : Mixer) (x : Mold) (k : ClassRecord) (s : State), s.powered = true →
    let n := (s.station m).readAttempts
    let bad := (s.station m).unreadable + 1
    let seen := fun (y : State) => withStation m (fun z => { z with mold := some x, unreadable := 0 }) y
    let unread := fun (y : State) => withStation m (fun z => { z with readAttempts := n + 1, unreadable := bad }) y
    let agrees := Nat.land x.moldType k.moldMask = Nat.land k.moldMatch k.moldMask
    let index := (s.station m).castIndex.getD 0
    let target := if index < castCount m s then k.castMass else min (k.castMass * 11 / 10) (contents m s)
    ((s.station m).moldCall.isSome = true →
      Completes (.moldArrival m) s
        (withStation m (fun z => { z with step := .read, moldCall := none, readAttempts := 0 }) s) [.tagRead m]) ∧
    ((s.station m).moldCall = none → Completes (.moldArrival m) s s [.moldPassedOn m]) ∧
    ((s.station m).step ≠ .read → Completes (.tagReadResult m .noRead) s s [] ∧ Completes (.tagReadResult m (.read x)) s s []) ∧
    ((s.station m).step = .read →
      (n < 2 →
        Completes (.tagReadResult m .noRead) s (withStation m (fun z => { z with readAttempts := n + 1 }) s) [.tagRead m]) ∧
      (2 ≤ n → bad < 3 →
        Completes (.tagReadResult m .noRead) s (callMold m (rejectMold m (unread s))) [.moldPassedOn m, .moldCall m]) ∧
      (2 ≤ n → 3 ≤ bad → holdable (s.seq m).state = true → inFlight m s = false →
        Completes (.tagReadResult m .noRead) s
          (launchHoldAt m .tagFail none (launchStage (s.seq m)) (rejectMold m (unread (begin s)))) []) ∧
      (classOf m s = some k → x.condition = .ready → agrees →
        Completes (.tagReadResult m (.read x)) s
          (withStation m (fun z => { z with step := .fill, fill := some target }) (seen s)) [.fill m target]) ∧
      ((x.condition ≠ .ready ∨ (classOf m s = some k ∧ ¬ agrees)) →
        Completes (.tagReadResult m (.read x)) s (callMold m (rejectMold m (seen s))) [.moldPassedOn m, .moldCall m]))

/-- R86, R87, R88: the end of a fill creates the cast in the first position of the reservation list still RESERVED for the
batch, in TRANSIT, with the mass-off flag when its mass differs from the target by more than 20 ‰ of it and DOSE when the
batch is flagged; the cast joins the Transit Queue in place of the claim, the batch's counts rise, and the tag write is
issued. R55, R51, R62: then a pending expiry discharges the mixer, else a pending hold is launched at POUR, else
after the last cast the POUR stage ends; otherwise nothing more happens. R56: at the end of POUR a stepped batch enters
STEP_WAIT with BATCH_END saved; another batch, and a stepped one at the MIXER STEP after it, ends, COMPLETE when the casts
poured equal N and SHORT_BATCH otherwise, with the pot-life timer stopped; contents, reckoned before the batch end (log 43),
are then discharged, and with none the mixer enters IDLE. With no order waiting: the record takes its end, or its slot is
freed when it has no live cast (R33), the positions still RESERVED for it become FREE (R32), and ORDER ENDED is raised. -/
def Obligations.FillCompletionCreatesTheCast : Prop :=
  (∀ (m : Mixer) (mass target slot p : Nat) (r : BatchRecord) (k : PendingHold) (s : State), s.powered = true →
    (s.station m).fill = some target → batchOf m s = some (slot, r) → nextPosition slot r s = some p →
    s.bayState (bayOf p) ≠ .empty →
    let id := nextCastId s
    let ended := fillEnds m target mass (begin s)
    let off := decide (target * 20 / 1000 < (if mass ≤ target then target - mass else mass - target))
    (ended.castAt p = some
        { id := id, slot := slot, batch := r.id, order := r.order.getD 0, lot := r.lot.getD 0, cls := r.cls.getD 0,
          pourTime := s.clock, placed := none, mass := mass, maturity := 0, gap := 0, dry := 0, substituted := 0,
          state := .transit, causes := { CastCauses.empty with dose := r.doseDeviation },
          flags := { CastFlags.empty with massOff := off } } ∧
      (∀ q, q ≠ p → ended.entry q = s.entry q) ∧
      ended.batch slot = some { r with poured := r.poured + 1, live := r.live + 1 } ∧
      (∀ j, j ≠ slot → ended.batch j = s.batch j) ∧ ended.store.castCounter = id ∧
      ended.transit = s.transit ++ [{ cast := id, position := p, station := m, written := false }] ∧
      ended.station m =
        { s.station m with
          fill := none, castIndex := none, mold := none, moldCall := none, claim := false, step := .write
          tagWrite := some id } ∧
      ended.seq m = { s.seq m with fillsTotal := (s.seq m).fillsTotal + mass } ∧ HallKept s ended ∧
      Output.tagWrite m id ∈ ended.outputs) ∧
    ((s.seq m).pendingExpiry = true → Completes (.fillCompletion m mass) s (dischargeNow m .potLife ended) []) ∧
    ((s.seq m).pendingExpiry = false → (s.seq m).pendingHold = some k →
      Completes (.fillCompletion m mass) s (launchHoldAt m k.cause k.component .pour ended) []) ∧
    ((s.seq m).pendingExpiry = false → (s.seq m).pendingHold = none → r.poured + 1 ≠ r.reservation.length →
      Completes (.fillCompletion m mass) s ended []) ∧
    ((s.seq m).pendingExpiry = false → (s.seq m).pendingHold = none → r.poured + 1 = r.reservation.length →
      (s.seq m).state = .pouring → Completes (.fillCompletion m mass) s (pourEnd m ended) [])) ∧
  (∀ (m : Mixer) (slot : Nat) (r : BatchRecord) (s : State), batchOf m s = some (slot, r) →
    let left := r.actuals.total - (s.seq m).fillsTotal
    let cause := if r.poured = r.reservation.length then EndCause.complete else .shortBatch
    let ended := batchEnd slot cause (withSeq m (fun x => { x with potLife := .stopped }) s)
    let paused := pourEnd m s
    let t := finishBatch m s
    (r.stepped = true →
      paused.seq m =
        { s.seq m with state := .stepWait, stage := none, component := none, saved := some .batchEnd, drive := .agitate } ∧
      paused.store = s.store ∧ paused.stations = s.stations ∧
      paused.plantLink = (raise (.stepWait m r.id .pour .batchEnd) s).plantLink) ∧
    (r.stepped = false → paused = t) ∧
    (0 < left → t = enterDischarging m none left ended) ∧
    (left = 0 → t = enterIdle m ended) ∧
    (s.orders = [] →
      t.batch slot = (if r.live = 0 then none else some { r with endTime := some s.clock, endCause := some cause }) ∧
      (∀ j, j ≠ slot → t.batch j = s.batch j) ∧
      (∀ p, t.entry p =
        if s.entry p = .reserved slot r.id ∧ (r.damaged = true ∨ p ∈ r.reservation) then .free else s.entry p) ∧
      (0 < left →
        t.seq m =
          { s.seq m with
            state := .discharging, stage := none, component := none, potLife := .stopped, mixTimer := none, saved := none
            pendingHold := none, pendingExpiry := false, drive := .agitate, dischargeCause := none
            delivery := some { channel := .reject, amount := left, limit := none } } ∧
        t.marker m = some { slot := slot, batch := r.id, stage := .discharging }) ∧
      (left = 0 →
        (t.seq m).state = .idle ∧ (t.seq m).batch = none ∧ (t.seq m).potLife = .notStarted ∧
        (t.seq m).drive = .stopped ∧ t.marker m = none) ∧
      (r.damaged = false → (∀ p ∈ r.reservation, s.entry p ≠ .reserved slot r.id) →
        t.plantLink = (raise (.orderEnded r.order r.id cause r.poured r.rejected) s).plantLink) ∧
      HallKept s t))

/-- R89: the result of a tag write ends it, marks the cast's Transit Queue entry as written, and gives a FAILED one the
untagged flag; one whose cast part no longer exists only ends the write (log 27), and one with no tag write in progress
changes nothing. The shuttle then looks at the head (R92, log 43). R79: the station is then at rest, unless its mixer is
POURING with casts left: the next cycle begins, for the cast after those poured. It claims a free place and calls a mold,
or waits for a place, at the tail of the waiting list, for 120 s (R80), both times of the oscillator (log 2); or, with contents below half a cast mass, the POUR
stage ends short (R56). -/
def Obligations.TagWriteResultMarksTheEntry : Prop :=
  ∀ (m : Mixer) (written : Bool) (id p : Nat) (c : CastPart) (s : State), s.powered = true →
    let ended := withStation m (fun x => { x with tagWrite := none }) (begin s)
    let rested := fun (x : State) => withStation m (fun y => { y with step := .none }) x
    let flagged := if written then ended
      else updateCast p (fun c => { c with flags := { c.flags with untagged := true } }) ended
    let u := shuttleCheck (markWritten id flagged)
    let goesOn := (s.seq m).state = .pouring ∧ poured m s < castCount m s
    let half := classField m (·.castMass) s / 2
    let cycle := beginCycle m u
    let place := placeFree s = true ∧ s.spaceList = []
    ((s.station m).tagWrite = none → Completes (.tagWriteResult m written) s s []) ∧
    ((s.station m).tagWrite = some id → findCast id s = none →
      ((s.station m).step = .write → ¬ goesOn → Completes (.tagWriteResult m written) s (rested ended) []) ∧
      ((s.station m).step = .write → goesOn → Completes (.tagWriteResult m written) s (beginCycle m ended) []) ∧
      ((s.station m).step ≠ .write → Completes (.tagWriteResult m written) s ended [])) ∧
    ((s.station m).tagWrite = some id → findCast id s = some p → s.castAt p = some c →
      (u.castAt p = some (if written then c else { c with flags := { c.flags with untagged := true } }) ∧
        (∀ q, q ≠ p → u.entry q = s.entry q) ∧
        u.transit = s.transit.map (fun e => if e.cast = id then { e with written := true } else e) ∧
        u.station m = { s.station m with tagWrite := none } ∧ u.mixers = s.mixers ∧
        u.store.batches = s.store.batches ∧ u.store.settings = s.store.settings ∧ u.bays = s.bays ∧ HallKept s u) ∧
      ((s.station m).step ≠ .write → Completes (.tagWriteResult m written) s u []) ∧
      ((s.station m).step = .write → ¬ goesOn → Completes (.tagWriteResult m written) s (rested u) []) ∧
      ((s.station m).step = .write → goesOn →
        Completes (.tagWriteResult m written) s cycle [] ∧
        (half ≤ contents m s → place →
          cycle.station m =
            { s.station m with
              tagWrite := none, castIndex := some (poured m s + 1), claim := true, spaceWait := none, step := .mold
              moldCall := some (s.oscillator + 60) } ∧
          Output.moldCall m ∈ cycle.outputs ∧ cycle.mixers = s.mixers ∧ cycle.store = u.store ∧
          cycle.transit = u.transit) ∧
        (half ≤ contents m s → ¬ place →
          cycle.station m =
            { s.station m with
              tagWrite := none, castIndex := some (poured m s + 1), step := .space
              spaceWait := some (s.oscillator + 120) } ∧
          cycle.spaceList = s.spaceList ++ [m] ∧ cycle.mixers = s.mixers ∧ cycle.store = u.store ∧
          cycle.transit = u.transit) ∧
        (contents m s < half →
          cycle = pourEnd m (withStation m (fun x => { x with step := .none, castIndex := none }) u))))

/-- R92: an IDLE shuttle takes a head whose tag mark is written, and no other; so it does when the head's tag write ends. R92,
R94, R95: the taking of a head, and SHUTTLE RETRY of a FAULTED shuttle, issue the placement when the bay's door shows OPEN,
and otherwise wait 90 s of the oscillator (log 2) at the door; in another state the retry is refused with STATE. A NOT_CONFIRMED placement and the
running out of the door wait, once its time has been reached and not before (log 3), make the shuttle FAULTED and raise
SHUTTLE FAULT; in another state they change nothing. R93: a CONFIRMED placement makes the head cast CURING at the clock,
takes it from the Transit Queue and evaluates it, and the shuttle looks at the next head. -/
def Obligations.ShuttlePlacesTheHeadCast : Prop :=
  ∀ (tag p : Nat) (m : Mixer) (written : Bool) (e : TransitEntry) (rest : List TransitEntry) (c : CastPart) (s : State),
    s.powered = true →
    let b := bayOf e.position
    let moving : Shuttle := { state := .moving, doorWait := none }
    let waiting : Shuttle := { state := .waitingDoor, doorWait := some (s.oscillator + 90) }
    let taken := fun (x : TransitEntry) => if (s.bay (bayOf x.position)).door = .opened then moving else waiting
    let fault := fun (why : ShuttleReason) =>
      raise (.shuttleFault e.cast e.position b why) { begin s with shuttle := { state := .faulted, doorWait := none } }
    (linkFree s → s.shuttle.state ≠ .faulted →
      Completes (.shuttleRetry tag) s (s.answered tag .shuttleRetry (.refused .state .empty)) []) ∧
    ((s.shuttle.state ≠ .waitingDoor ∨ due s.oscillator s.shuttle.doorWait = false) →
      Completes .doorWaitExpiry s s []) ∧
    (s.shuttle.state ≠ .moving →
      Completes (.placementCompletion false) s s [] ∧ Completes (.placementCompletion true) s s []) ∧
    (s.transit = e :: rest →
      (linkFree s → s.shuttle.state = .faulted → (s.bay b).door = .opened →
        Completes (.shuttleRetry tag) s ({ s with shuttle := moving }.answered tag .shuttleRetry (.done .empty))
          [.place e.position, replyFrame tag .shuttleRetry (.done .empty)]) ∧
      (linkFree s → s.shuttle.state = .faulted → (s.bay b).door ≠ .opened →
        Completes (.shuttleRetry tag) s ({ s with shuttle := waiting }.answered tag .shuttleRetry (.done .empty))
          [replyFrame tag .shuttleRetry (.done .empty)]) ∧
      (s.shuttle.state = .waitingDoor → due s.oscillator s.shuttle.doorWait = true →
        Completes .doorWaitExpiry s (fault .doorTimeout) []) ∧
      (s.shuttle.state = .moving → Completes (.placementCompletion false) s (fault .notConfirmed) []) ∧
      (s.shuttle.state = .idle → e.written = false → shuttleCheck s = s) ∧
      (s.shuttle.state = .idle → e.written = true →
        shuttleCheck s =
          { s with
            shuttle := taken e
            outputs := s.outputs ++ (if (s.bay b).door = .opened then [Output.place e.position] else []) }) ∧
      (s.shuttle.state = .idle → (s.station m).tagWrite = some e.cast → findCast e.cast s = some p →
        ∃ t, exec (.tagWriteResult m written) s = .next t ∧ t.shuttle = taken e) ∧
      (s.shuttle.state = .moving → s.castAt e.position = some c → c.state = .transit →
        ∃ t, exec (.placementCompletion true) s = .next t ∧
          t.castAt e.position =
            some (evaluateCast (s.cls c.cls) s.clock { c with state := .curing, placed := some s.clock }) ∧
          (∀ q, q ≠ e.position → t.entry q = s.entry q) ∧ t.transit = rest ∧
          (rest = [] → t.shuttle = Shuttle.idle) ∧
          (∀ f l, rest = f :: l → t.shuttle = if f.written = true then taken f else Shuttle.idle) ∧
          t.store.batches = s.store.batches ∧ t.mixers = s.mixers ∧ HallKept s t))

/-! ### The bays (6) -/

/-- R101, R187 (3): BAY MARK with UNUSABLE as code 2 and FREE as code 3 (log 31). A position outside 1 to 288, a NONEXISTENT
one and any other code are refused with RANGE, a position of an ABSENT bay with STATE, and one RESERVED or holding a cast
with IN_USE. One that has the wanted status already is answered DONE and nothing changes. A FREE one becomes UNUSABLE, after
which a FILLING bay with auto-seal set and no position FREE makes a seal request (R109, R108); an UNUSABLE one becomes FREE,
and the Dispatcher runs. Nothing else changes. -/
def Obligations.BayMarkMarksPositions : Prop :=
  ∀ (tag p code : Nat) (s : State), linkFree s →
    let q := Request.bayMark p code
    let b := bayOf p
    let refused := fun (x : Reason) => Completes (.bayMark tag p code) s (s.answered tag q (.refused x .empty)) []
    let makes := fun (x : State) => Completes (.bayMark tag p code) s (x.answered tag q (.done .empty)) []
    let real := 1 ≤ p ∧ p ≤ 288
    let known := code = 2 ∨ code = 3
    let unusable := writeEntry p .unusable s
    let sealsNow := (s.settings b).autoSeal = true ∧ s.bayState b = .filling ∧ bayAny Entry.isFree b unusable = false
    ((¬ real ∨ ¬ known) → refused .range) ∧
    (real → known → s.bayState b = .absent → refused .state) ∧
    (real → known → s.bayState b ≠ .absent →
      (s.entry p = .nonexistent → refused .range) ∧
      (((s.entry p).isReserved || (s.entry p).isOccupied) = true → refused .inUse) ∧
      (s.entry p = .unusable → code = 2 → makes s) ∧
      (s.entry p = .free → code = 3 → makes s) ∧
      (s.entry p = .free → code = 2 →
        (¬ sealsNow → makes unusable) ∧
        (sealsNow → bayAwaits b unusable = true → makes (setBayState b .sealPending unusable)) ∧
        (sealsNow → bayAwaits b unusable = false → (s.bay b).door ≠ .closed →
          makes (withBay b (fun c => { c with step := some .close, deadline := some (s.oscillator + 90) })
            (actuate b .doorClose (setBayState b .sealing unusable)))) ∧
        (sealsNow → bayAwaits b unusable = false → (s.bay b).door = .closed → makes (enterSealing b unusable))) ∧
      (s.entry p = .unusable → code = 3 →
        makes (dispatch (writeEntry p .free (s.holding tag q))) ∧ (s.orders = [] → makes (writeEntry p .free s))))

/-- R100: BAY SET is refused with RANGE for a bay number outside 1 to 12, a field outside its range of Table 6.2, or a fill
order that does not name every existing position exactly once and no other, and with IN_USE for a bay that is not EMPTY or
holds a RESERVED position; a refusal changes nothing. A BAY SET that passes these checks, with no order waiting, replaces the
bay's settings record, keeps the bay EMPTY, makes the existing positions that were NONEXISTENT FREE, keeps the others'
status, makes the positions beyond the geometry NONEXISTENT, and touches no entry of another bay and no other record. It
sends the station a set-period actuation with the new period, at once on a free line (R103), and restarts a running late
timer with that period, leaving the rest of the aligner as it is (R141). -/
def Obligations.BaySetReplacesSettingsAndGeometry : Prop :=
  ∀ (tag : Nat) (r : BayRequest) (k : Binding) (s : State), linkFree s →
    let b := r.bay
    let all := defaultFillOrder b r.levels r.slots
    let refused := fun (x : Reason) => Completes (.baySet tag r) s (s.answered tag (.baySet r) (.refused x .empty)) []
    let real := 1 ≤ b ∧ b ≤ 12
    let ranges := (1 ≤ r.levels ∧ r.levels ≤ 4) ∧ (1 ≤ r.slots ∧ r.slots ≤ 6) ∧ (10 ≤ r.period ∧ r.period ≤ 600) ∧
      (2 ≤ r.cutLimit ∧ r.cutLimit ≤ 60) ∧ r.settle ≤ 3600 ∧ r.coolDown ≤ 600
    let ordered := ∀ l, r.fillOrder = some l → l.Perm all
    let period := StationRecord.actuation k.address (.setPeriod r.period)
    (¬ real → refused .range) ∧
    (real → ¬ ranges → refused .range) ∧
    (real → ranges → ¬ ordered → refused .range) ∧
    (real → ranges → ordered → (s.bayState b ≠ .empty ∨ bayReserved b s = true) → refused .inUse) ∧
    (real → ranges → ordered → s.bayState b = .empty → s.orders = [] →
      (∀ p ∈ bayPositions b, s.entry p = .free ∨ s.entry p = .unusable ∨ s.entry p = .nonexistent) →
      ∃ t, exec (.baySet tag r) s = .next t ∧
        t.settings b =
          { levels := r.levels, slots := r.slots, fillOrder := r.fillOrder.getD all, period := r.period,
            cutLimit := r.cutLimit, autoSeal := r.autoSeal, settle := r.settle, coolDown := r.coolDown, state := .empty } ∧
        (∀ p ∈ bayPositions b,
          t.entry p = if p ∈ all then (if s.entry p = .nonexistent then .free else s.entry p) else .nonexistent) ∧
        (∀ p, p ∉ bayPositions b → t.entry p = s.entry p) ∧ (∀ j, j ≠ b → t.settings j = s.settings j) ∧
        t.aligner b =
          { s.aligner b with
            lateTimer := (s.aligner b).lateTimer.map fun _ => s.oscillator + (r.period + r.period / 2) } ∧
        (∀ j, j ≠ b → t.aligner j = s.aligner j) ∧
        (s.binding b = some k → (s.aligner b).state ≠ .unbound →
          t.stationLink = (settle { s with stationLink :=
            { s.stationLink with waitingActuations := s.stationLink.waitingActuations ++ [period] } }).stationLink ∧
          (s.stationLink.exchange = none → Output.station period (encodeStation period) ∈ t.outputs)) ∧
        t.store.batches = s.store.batches ∧ t.store.classes = s.store.classes ∧ t.store.lots = s.store.lots ∧
        t.store.bindings = s.store.bindings ∧ t.mixers = s.mixers ∧ t.stations = s.stations ∧ t.bays = s.bays ∧
        t.transit = s.transit ∧ t.shuttle = s.shuttle ∧
        t.plantLink = answering s.plantLink (requested tag (.baySet r)) (.done .empty))

/-- R108: BAY SEAL of a number outside 1 to 12 is refused with RANGE. Of a FILLING or BREACHED bay that holds a RESERVED
position or a TRANSIT cast it makes it SEAL_PENDING; of one that holds neither it makes it SEALING at step CLOSE, with the
door commanded to close and 90 s (R111); both are answered TAKEN. A door that already shows CLOSED completes CLOSE at the
entry: LOCK follows, with a lock actuation and 30 s. A latch that already shows ENGAGED then completes LOCK: CONDITION
follows (R112), with conditioning commanded on and the settle time, or, where that is 0, with ready wanted and 3600 s; the
ready flag held does not complete it. In SEALING and UNSEALING it is refused with BUSY, in ABSENT, EMPTY, SEAL_PENDING,
SEALED and UNLOADING with STATE. -/
def Obligations.BaySealActsByBayState : Prop :=
  ∀ (tag b : Nat) (s : State), linkFree s →
    let q := Request.baySeal b
    let takes := fun (st : SeqStep) (seconds : Nat) (x : State) =>
      withBay b (fun c => { c with step := some st, deadline := some (s.oscillator + seconds) }) x
    let close := takes .close 90 (actuate b .doorClose (setBayState b .sealing s))
    let lock := takes .lock 30 (actuate b .lock close)
    let on := setConditioning b true lock
    let settle := (s.settings b).settle
    let condition :=
      if settle = 0 then withBay b (fun c => { c with readyWanted := true }) (takes .condition 3600 on)
      else takes .condition settle on
    let seals := (s.bayState b = .filling ∨ s.bayState b = .breached) ∧ bayAwaits b s = false
    ((b < 1 ∨ 12 < b) → Completes (.baySeal tag b) s (s.answered tag q (.refused .range .empty)) []) ∧
    (1 ≤ b → b ≤ 12 →
      ((s.bayState b = .filling ∨ s.bayState b = .breached) → bayAwaits b s = true →
        Completes (.baySeal tag b) s ((setBayState b .sealPending s).answered tag q .taken) []) ∧
      (seals → (s.bay b).door ≠ .closed → Completes (.baySeal tag b) s (close.answered tag q .taken) []) ∧
      (seals → (s.bay b).door = .closed → (s.bay b).latch ≠ .engaged →
        Completes (.baySeal tag b) s (lock.answered tag q .taken) []) ∧
      (seals → (s.bay b).door = .closed → (s.bay b).latch = .engaged →
        Completes (.baySeal tag b) s (condition.answered tag q .taken) []) ∧
      ((s.bayState b = .sealing ∨ s.bayState b = .unsealing) →
        Completes (.baySeal tag b) s (s.answered tag q (.refused .busy .empty)) []) ∧
      ((s.bayState b = .absent ∨ s.bayState b = .empty ∨ s.bayState b = .sealPending ∨ s.bayState b = .sealed ∨
          s.bayState b = .unloading) →
        Completes (.baySeal tag b) s (s.answered tag q (.refused .state .empty)) []))

/-- R114: BAY UNSEAL of a bay number out of 1..12 is refused with RANGE, of a SEALING or UNSEALING bay with BUSY, and of an
ABSENT, EMPTY, FILLING, SEAL_PENDING or UNLOADING bay with STATE. R115, R116: of a SEALED bay it sends conditioning off and
takes step COOL for the cool-down, or, with a cool-down of 0 and a latch that does not show RELEASED, step UNLOCK with
30 s; of a BREACHED bay whose latch does not show RELEASED it takes step UNLOCK; with the latch shown RELEASED either takes
step OPEN with 90 s; and with the door shown OPEN as well the bay is UNLOADING at once, with BAY UNLOADING, or, holding
nothing, EMPTY with BAY EMPTY (R107). Each is answered TAKEN. -/
def Obligations.BayUnsealStartsUnsealing : Prop :=
  ∀ (tag b : Nat) (s : State), linkFree s →
    let q := Request.bayUnseal b
    let refused := fun (x : Reason) => Completes (.bayUnseal tag b) s (s.answered tag q (.refused x .empty)) []
    let taken := fun (x : State) => Completes (.bayUnseal tag b) s (x.answered tag q .taken) []
    let step := fun (st : SeqStep) (n : Nat) (x : State) =>
      withBay b (fun c => { c with step := some st, deadline := some (s.oscillator + n) }) x
    let quick := s.bayState b = .sealed ∧ (s.settings b).coolDown = 0
    let begins := quick ∨ s.bayState b = .breached
    let unsealing := fun (x : State) =>
      let y := setBayState b .unsealing x
      if s.bayState b = .sealed then setConditioning b false y else y
    let opening := fun (x : State) => actuate b .doorOpen (actuate b .unlock (unsealing x))
    let unloading := raise (.bayUnloading b (bayCount Entry.isOccupied b s))
      (setBayState b .unloading
        (withBay b (fun c => { c with step := none, deadline := none, readyWanted := false }) (opening (s.holding tag q))))
    ((b < 1 ∨ 12 < b) → refused .range) ∧
    (1 ≤ b → b ≤ 12 →
      ((s.bayState b = .sealing ∨ s.bayState b = .unsealing) → refused .busy) ∧
      ((s.bayState b = .absent ∨ s.bayState b = .empty ∨ s.bayState b = .filling ∨ s.bayState b = .sealPending ∨
        s.bayState b = .unloading) → refused .state) ∧
      (s.bayState b = .sealed → 0 < (s.settings b).coolDown → taken (step .cool (s.settings b).coolDown (unsealing s))) ∧
      (begins → (s.bay b).latch ≠ .released → taken (step .unlock 30 (actuate b .unlock (unsealing s)))) ∧
      (begins → (s.bay b).latch = .released → (s.bay b).door ≠ .opened → taken (step .doorOpen 90 (opening s))) ∧
      (begins → (s.bay b).latch = .released → (s.bay b).door = .opened →
        taken (if bayReserved b s || bayOccupied b s then unloading
          else dispatch (raise (.bayEmpty b .unloading) (actuate b .doorClose (setBayState b .empty unloading))))))

/-- R111, R112, R115, R116: the bay step timers, once their time has been reached and not before (log 3). The settle time's
end makes the bay SEALED with BAY SEALED, and the 3600 s wait's end with CONDITIONING SLOW. The cool-down's end takes step
UNLOCK with 30 s; a latch that shows RELEASED already ends it at its entry, and step OPEN is taken with 90 s; a door that
shows OPEN already ends that as well, and the bay is UNLOADING with BAY UNLOADING, or, holding nothing, EMPTY with BAY EMPTY
(R107). A deadline of UNLOCK or OPEN makes the bay BREACHED with UNSEAL FAILED. -/
def Obligations.BayStepTimersAct : Prop :=
  ∀ (b : Nat) (st : SeqStep) (s : State), s.powered = true → 1 ≤ b → b ≤ 12 →
    let expired := due s.oscillator (s.bay b).deadline
    let stepless := fun (x : State) =>
      withBay b (fun c => { c with step := none, deadline := none, readyWanted := false }) x
    let takes := fun (step : SeqStep) (n : Nat) (x : State) =>
      withBay b (fun c => { c with step := some step, deadline := some (s.oscillator + n) }) x
    let cooled := expired = true ∧ s.bayState b = .unsealing ∧ (s.bay b).step = some .cool
    let opening := actuate b .doorOpen (actuate b .unlock (begin s))
    let unloading := raise (.bayUnloading b (bayCount Entry.isOccupied b s)) (setBayState b .unloading (stepless opening))
    (expired = false →
      Completes (.conditionDeadline b) s s [] ∧ Completes (.coolDownExpiry b) s s [] ∧
      Completes (.unsealStepTimeout b) s s []) ∧
    (expired = true → s.bayState b = .sealing → (s.bay b).step = some .condition →
      Completes (.conditionDeadline b) s
        (raise (if (s.bay b).readyWanted then .conditioningSlow b s.clock else .baySealed b s.clock)
          (setBayState b .sealed (stepless (begin s)))) []) ∧
    (cooled → (s.bay b).latch ≠ .released →
      Completes (.coolDownExpiry b) s (takes .unlock 30 (actuate b .unlock s)) []) ∧
    (cooled → (s.bay b).latch = .released → (s.bay b).door ≠ .opened →
      Completes (.coolDownExpiry b) s (takes .doorOpen 90 opening) []) ∧
    (cooled → (s.bay b).latch = .released → (s.bay b).door = .opened →
      Completes (.coolDownExpiry b) s
        (if bayReserved b s || bayOccupied b s then unloading
        else dispatch (raise (.bayEmpty b .unloading) (actuate b .doorClose (setBayState b .empty unloading)))) []) ∧
    (expired = true → s.bayState b = .unsealing → (s.bay b).step = some st → (st = .unlock ∨ st = .doorOpen) →
      Completes (.unsealStepTimeout b) s
        (raise (.unsealFailed b st (s.bay b).door (s.bay b).latch (s.bay b).ready)
          (setBayState b .breached (stepless (begin s)))) [])

/-- R113: when the deadline of CLOSE or LOCK runs out, its time reached (before that the command does nothing: log 3), the
controller sends conditioning off, unlock where the step is LOCK, and door open, and the bay is FILLING again with no step
and conditioning off, and SEAL FAILED is raised; the Dispatcher then runs and the tests of R107 and R109 are made. With no
order waiting: a bay that holds no reservation and no cast goes on to EMPTY, with a door-close actuation and BAY EMPTY; a bay
that holds one and has a FREE position, or auto-seal clear, stays FILLING, and no entry changes; a full one with auto-seal
set makes a new seal request at once, which makes it SEAL_PENDING while it awaits a cast, and else starts at CLOSE with 90 s,
or, with the door shown CLOSED, goes on as at any seal request (R108, R111). -/
def Obligations.SealFailureReturnsToFilling : Prop :=
  ∀ (b : Nat) (st : SeqStep) (s : State), s.powered = true → 1 ≤ b → b ≤ 12 →
    let off := setConditioning b false (begin s)
    let opened := actuate b .doorOpen (if st = .lock then actuate b .unlock off else off)
    let failed := raise (.sealFailed b st (s.bay b).door (s.bay b).latch)
      (setBayState b .filling
        (withBay b (fun c => { c with step := none, deadline := none, readyWanted := false }) opened))
    let fails := due s.oscillator (s.bay b).deadline = true ∧ s.bayState b = .sealing ∧ (s.bay b).step = some st ∧
      (st = .close ∨ st = .lock)
    let holds := (bayReserved b s || bayOccupied b s) = true
    let again := (s.settings b).autoSeal = true ∧ bayAny Entry.isFree b s = false
    (due s.oscillator (s.bay b).deadline = false → Completes (.sealStepTimeout b) s s []) ∧
    (fails → Completes (.sealStepTimeout b) s (autoSealTest b (emptyTest b (dispatch failed))) []) ∧
    (fails → s.orders = [] →
      (¬ holds →
        Completes (.sealStepTimeout b) s
          (raise (.bayEmpty b .filling) (actuate b .doorClose (setBayState b .empty failed))) []) ∧
      (holds → ¬ again → Completes (.sealStepTimeout b) s failed []) ∧
      (holds → again → bayAwaits b s = true → Completes (.sealStepTimeout b) s (setBayState b .sealPending failed) []) ∧
      (holds → again → bayAwaits b s = false → (s.bay b).door ≠ .closed →
        Completes (.sealStepTimeout b) s
          (withBay b (fun c => { c with step := some .close, deadline := some (s.oscillator + 90) })
            (actuate b .doorClose (setBayState b .sealing failed))) []) ∧
      (holds → again → bayAwaits b s = false → (s.bay b).door = .closed →
        Completes (.sealStepTimeout b) s (enterSealing b failed) [])) ∧
    (fails → s.orders = [] → holds → ¬ again → (s.aligner b).state ≠ .unbound →
      ∃ t, exec (.sealStepTimeout b) s = .next t ∧ t.settings b = { s.settings b with state := .filling } ∧
        t.bay b = { s.bay b with step := none, deadline := none, readyWanted := false, conditioning := false } ∧
        t.plantLink = (raise (.sealFailed b st (s.bay b).door (s.bay b).latch) s).plantLink ∧
        t.store.entries = s.store.entries ∧ t.store.batches = s.store.batches ∧ t.mixers = s.mixers ∧
        t.stations = s.stations ∧ t.transit = s.transit ∧ t.shuttle = s.shuttle ∧ HallKept s t)

/-- R117: a breach sends conditioning off where the command is ON and nothing else, clears the step, makes the bay BREACHED,
gives the breached flag to every cast of the bay that is not TRANSIT and to no other, and raises BAY BREACHED with the
state and step left and the count of the casts flagged (log 32). R102, R117: so does an accepted report whose latch is
RELEASED in a SEALED bay, in step CONDITION of SEALING or in step COOL of UNSEALING; its interval was credited before. -/
def Obligations.BreachFlagsTheBaysCasts : Prop :=
  (∀ (b : Nat) (k : Binding) (s : State), 1 ≤ b → b ≤ 12 → (s.aligner b).state ≠ .unbound → s.binding b = some k →
    let t := breach b s
    t.bayState b = .breached ∧ (t.bay b).step = none ∧ (t.bay b).deadline = none ∧ (t.bay b).readyWanted = false ∧
    (t.bay b).conditioning = false ∧
    t.stationLink.waitingActuations =
      s.stationLink.waitingActuations ++
        (if (s.bay b).conditioning = true then [.actuation k.address .conditionOff] else []) ∧
    t.plantLink =
      (raise (.bayBreached b (s.bayState b) (s.bay b).step s.clock (bayCount breachable b s)) s).plantLink ∧
    (∀ p c, p ∈ bayPositions b → s.castAt p = some c → c.state ≠ .transit →
      t.castAt p = some { c with flags := { c.flags with breached := true } }) ∧
    (∀ p c, s.castAt p = some c → (p ∉ bayPositions b ∨ c.state = .transit) → t.castAt p = some c)) ∧
  (∀ (b : Nat) (r : Report) (s : State), s.powered = true → s.stationLink.exchange = some (.poll r.address) →
    bayOfAddress r.address s = some b → (s.aligner b).state = .locked → (s.aligner b).expected = some r.sequence →
    r.latched = false → r.button = false →
    (s.bayState b = .sealed ∨ (s.bayState b = .sealing ∧ (s.bay b).step = some .condition) ∨
      (s.bayState b = .unsealing ∧ (s.bay b).step = some .cool)) →
    ∃ t, exec (.conditionReport r) s = .next t ∧ t.bayState b = .breached ∧ (t.bay b).step = none ∧
      (t.bay b).conditioning = false ∧
      (∀ p c, p ∈ bayPositions b → s.castAt p = some c → c.state ≠ .transit →
        ∃ d, t.castAt p = some d ∧ d.flags.breached = true ∧ d.id = c.id) ∧
      (∀ p c, s.castAt p = some c → (p ∉ bayPositions b ∨ c.state = .transit) → t.castAt p = some c))

/-- R104, Table 6.3: the records that the standing actuations of a bound bay send, by its state, and the conditioning
command they leave. -/
def Obligations.StandingActuationsFollowTable : Prop :=
  ∀ (b : Nat) (k : Binding) (s : State), 1 ≤ b → b ≤ 12 → (s.aligner b).state ≠ .unbound → s.binding b = some k →
    s.bayState b ≠ .absent →
    let send := fun (l : List Action) => s.stationLink.waitingActuations ++ l.map (.actuation k.address)
    let on := decide (s.bayState b = .sealed ∨ (s.bayState b = .sealing ∧ (s.bay b).step = some .condition))
    let door : List Action := match s.bayState b with
      | .empty => [.doorClose]
      | .filling => [.doorOpen]
      | .sealPending => [.doorOpen]
      | .unloading => [.doorOpen]
      | _ => []
    (standing b s).stationLink.waitingActuations =
      send ([.setPeriod (s.settings b).period] ++ door ++ [if on then .conditionOn else .conditionOff]) ∧
    ((standing b s).bay b).conditioning = on

/-! ### The Station Link and the aligners (7) -/

/-- R126: HUNT starts a hunt at address 1 and is answered TAKEN; while one is running it is refused with BUSY. -/
def Obligations.HuntStartsAtAddressOne : Prop :=
  ∀ (tag : Nat) (s : State), linkFree s →
    (s.stationLink.hunt = none → (∀ a, s.stationLink.exchange ≠ some (.probe a)) →
      Completes (.hunt tag) s
        ({ s with stationLink := { s.stationLink with hunt := some Hunt.first } }.answered tag .hunt .taken) []) ∧
    (s.stationLink.hunt.isSome = true →
      Completes (.hunt tag) s (s.answered tag .hunt (.refused .busy .empty)) [])

/-- R127, R128: both are refused with RANGE for a bay number outside 1 to 12. R127: STATION ACCEPT of a bay in MISMATCH takes the offered serial into the binding, starts the aligner as after
power-up, sends the standing actuations and runs the Dispatcher; in another state it is refused. R128: STATION UNBIND of an
EMPTY bay empties the binding record, clears every item of the aligner, and makes the bay ABSENT, and an aligner that so
leaves BLIND or MISMATCH runs the Dispatcher (R24 (6), R138); of a bay in any other state it is refused with IN_USE. R103: an
actuation record that still waits for the unbound station is not sent. -/
def Obligations.StationAcceptAndUnbind : Prop :=
  (∀ (tag b serial : Nat) (k : Binding) (s : State), linkFree s → 1 ≤ b → b ≤ 12 →
    let q := Request.stationAccept b
    ((s.aligner b).state = .mismatch → s.binding b = some k → (s.aligner b).offered = some serial →
      Completes (.stationAccept tag b) s
        ((dispatch (standing b (withAligner b (fun _ =>
            { Aligner.unbound with
              state := .syncing, lateTimer := some (s.oscillator + ((s.settings b).period + (s.settings b).period / 2)) })
          (write (.binding b (some { address := k.address, serial := serial })) (s.holding tag q))))).answered tag q
          (.done .empty)) []) ∧
    ((s.aligner b).state ≠ .mismatch →
      Completes (.stationAccept tag b) s (s.answered tag q (.refused .state .empty)) [])) ∧
  (∀ (tag b : Nat) (s : State), linkFree s → 1 ≤ b → b ≤ 12 →
    let q := Request.stationUnbind b
    let waits := match s.binding b with
      | none => s.stationLink.waitingActuations
      | some k => s.stationLink.waitingActuations.filter fun r => match r with
        | .actuation a _ => decide (a ≠ k.address)
        | _ => true
    let unbound := writeSettings b { s.settings b with state := .absent }
      (withAligner b (fun _ => Aligner.unbound) (write (.binding b none)
        { s.holding tag q with stationLink := { s.stationLink with waitingActuations := waits } }))
    let out := (s.aligner b).state = .blind ∨ (s.aligner b).state = .mismatch
    (s.bayState b = .empty → ¬ out →
      Completes (.stationUnbind tag b) s (unbound.answered tag q (.done .empty)) []) ∧
    (s.bayState b = .empty → ¬ out → ∀ k, s.binding b = some k →
      ∃ t, exec (.stationUnbind tag b) s = .next t ∧
        t.outputs.all (fun o => match o with
          | .station (.actuation a _) _ => decide (a ≠ k.address)
          | _ => true) = true) ∧
    (s.bayState b = .empty → out →
      Completes (.stationUnbind tag b) s ((dispatch unbound).answered tag q (.done .empty)) []) ∧
    (s.bayState b ≠ .empty →
      Completes (.stationUnbind tag b) s (s.answered tag q (.refused .inUse .empty)) [])) ∧
  (∀ (tag b : Nat) (s : State), linkFree s → (b < 1 ∨ 12 < b) →
    Completes (.stationAccept tag b) s (s.answered tag (.stationAccept b) (.refused .range .empty)) [] ∧
    Completes (.stationUnbind tag b) s (s.answered tag (.stationUnbind b) (.refused .range .empty)) [])

/-- R120: an idle answer of the polled address and the end of a poll's window free the line; an answer of another
address, and a discarded frame, change nothing. A POLL with the line free polls the next address of the round that is still
bound, or, where none is left, begins a new round over the bound addresses in rising order; with no address bound it sends
nothing. One during a probe waits for its end. One over an unanswered poll ends that poll, and the actuation records that
wait go out before the new poll (log 16, log 17). -/
def Obligations.PollsAndAnswers : Prop :=
  ∀ (a b : Nat) (rest : List Nat) (bytes : List Byte) (s : State), s.powered = true →
    let bound := fun (x : Nat) => (bayOfAddress x s).isSome
    let left := s.stationLink.round.filter bound
    let next := if left = [] then (List.range' 1 31).filter bound else left
    let poll := Output.station (.poll a) (encodeStation (.poll a))
    (s.stationLink.exchange = some (.poll a) → Completes (.idleAnswer a) s (lineFree s) []) ∧
    (s.stationLink.exchange ≠ some (.poll a) → Completes (.idleAnswer a) s s []) ∧
    (s.stationLink.exchange = some (.poll a) → Completes .pollAnswerTimeout s (lineFree s) []) ∧
    Completes (.stationFrameDiscarded bytes) s s [] ∧
    (s.stationLink.exchange = none → next = a :: rest →
      Completes .poll s
        { s with stationLink := { s.stationLink with exchange := some (.poll a), round := rest, pollDue := false } }
        [poll]) ∧
    (s.stationLink.exchange = none → next = [] →
      Completes .poll s { s with stationLink := { s.stationLink with pollDue := false } } []) ∧
    (s.stationLink.exchange = some (.probe b) →
      Completes .poll s { s with stationLink := { s.stationLink with pollDue := true } } []) ∧
    (s.stationLink.exchange = some (.poll b) → next = a :: rest →
      ∃ t, exec .poll s = .next t ∧
        t = { s with
          stationLink := { s.stationLink with
            exchange := some (.poll a), round := rest, pollDue := false, waitingActuations := [] }
          outputs := s.stationLink.waitingActuations.map (fun r => .station r (encodeStation r)) ++ [poll]
          journal := [], batteryCleared := none }) ∧
    (s.stationLink.exchange = some (.poll b) → next = [] →
      Completes .poll s { s with stationLink := { s.stationLink with exchange := none, pollDue := false } } [])

/-- R124, Table 7.2: silence at a bound address makes its aligner BLIND with no STATION BLIND notice, stops its late timer
and clears its expected sequence, candidate and offered serial; another serial makes it MISMATCH with that serial offered;
the bound serial takes it out of BLIND or MISMATCH into SYNCING and leaves it as it is otherwise (what else it keeps: log
30); leaving BLIND or MISMATCH runs the Dispatcher (R24 (6)), before the hunt goes on or HUNT DONE is raised (the place of
the scan is the model's choice: log 8). Silence at an address not bound changes nothing; a station there is bound to the
lowest-numbered ABSENT bay, or listed as left over when there is none. R105: the bay bound leaves ABSENT with its default
settings, its flags UNKNOWN, its NONEXISTENT positions FREE and its aligner SYNCING, EMPTY or, with a RESERVED or OCCUPIED
position, BREACHED; its late timer runs 450 s, by the default period, since the model takes the default settings before it
starts the timer (the model's choice: log 49). R125: the hunt goes on to the next address, and after address 31 it ends with
HUNT DONE, which lists what the hunt found. -/
def Obligations.ProbeOutcomesFollowTable : Prop :=
  (∀ (a b serial : Nat) (k : Binding) (h : Hunt) (s : State), s.powered = true →
    s.stationLink.exchange = some (.probe a) → s.stationLink.hunt = some h →
    let x := lineFree (begin s)
    let on := fun (g : Hunt) (y : State) =>
      if h.address < 31 then
        { y with stationLink := { y.stationLink with hunt := some { g with address := h.address + 1 } } }
      else
        raise (.huntDone g.bound g.mismatches g.silent g.leftovers)
          { y with stationLink := { y.stationLink with hunt := none } }
    let silent := withAligner b (fun y =>
      { y with state := .blind, offered := none, lateTimer := none, expected := none, candidate := none }) x
    let other := withAligner b (fun y =>
      { y with state := .mismatch, offered := some serial, lateTimer := none, expected := none, candidate := none }) x
    let back := withAligner b (fun y =>
      { y with
        state := .syncing, offered := none
        lateTimer := some (s.oscillator + ((s.settings b).period + (s.settings b).period / 2)) }) x
    let st := (s.aligner b).state
    (bayOfAddress a s = some b →
      let quiet := { h with silent := h.silent ++ [{ bay := b, address := a }] }
      (st ≠ .mismatch → Completes .probeSilence s (on quiet silent) []) ∧
      (st = .mismatch → Completes .probeSilence s (on quiet (dispatch silent)) [])) ∧
    (bayOfAddress a s = some b → s.binding b = some k → k.serial ≠ serial →
      let found := { h with mismatches := h.mismatches ++ [{ bay := b, address := a, bound := k.serial, serial := serial }] }
      (st ≠ .blind → Completes (.identityAnswer a serial) s (on found other) []) ∧
      (st = .blind → Completes (.identityAnswer a serial) s (on found (dispatch other)) [])) ∧
    (bayOfAddress a s = some b → s.binding b = some k → k.serial = serial →
      ((st = .blind ∨ st = .mismatch) → Completes (.identityAnswer a serial) s (on h (dispatch back)) []) ∧
      (st ≠ .blind → st ≠ .mismatch → Completes (.identityAnswer a serial) s (on h x) [])) ∧
    (bayOfAddress a s = none → Completes .probeSilence s (on h x) []) ∧
    (bayOfAddress a s = none → 1 ≤ b → b ≤ 12 → s.bayState b = .absent →
      (∀ j, 1 ≤ j → j < b → s.bayState j ≠ .absent) →
      Completes (.identityAnswer a serial) s
        (on { h with bound := h.bound ++ [{ bay := b, address := a, serial := serial }] } (bind b a serial x)) []) ∧
    (bayOfAddress a s = none → (∀ j, 1 ≤ j → j ≤ 12 → s.bayState j ≠ .absent) →
      Completes (.identityAnswer a serial) s
        (on { h with leftovers := h.leftovers ++ [{ address := a, serial := serial }] } x) [])) ∧
  (∀ (a b serial : Nat) (s : State), 1 ≤ b → b ≤ 12 → s.orders = [] →
    let t := bind b a serial s
    t.binding b = some { address := a, serial := serial } ∧ (∀ j, j ≠ b → t.binding j = s.binding j) ∧
    t.settings b =
      { BaySettings.default b .absent with
        state := if bayReserved b s = true ∨ bayOccupied b s = true then .breached else .empty } ∧
    (∀ j, j ≠ b → t.settings j = s.settings j) ∧
    t.aligner b = { Aligner.unbound with state := .syncing, lateTimer := some (s.oscillator + 450) } ∧
    t.bay b = { s.bay b with door := .unknown, latch := .unknown, ready := .unknown, conditioning := false } ∧
    (∀ p, t.entry p = if p ∈ bayPositions b ∧ s.entry p = .nonexistent then .free else s.entry p) ∧
    t.stationLink.round = s.stationLink.round.filter (fun x => decide (x ≠ a)))

/-- R120, R130, R133, R134: in LOCKED, a report without a station fault whose sequence is the expected one, from the polled
station of a bay, is accepted, and so in SYNCING and BLIND one that follows the candidate (R132): the aligner is LOCKED, the
expected sequence becomes the next, the last good readings are the clamped ones, the run is 0, the mark is clear, the
accepted counter rises, the late timer is restarted, and the held flags are those of the report. R150: where it brings no
breach, the report's interval is credited to every cast of the bay that is credited and was placed before, and the cast is
evaluated; no other cast changes. R130 (2): in LOCKED a report 1 to 6 ahead is accepted after as many substitutes, which the
lost and substitution counters count. R137: a report with a station fault and the expected sequence brings a substitute in
place of its readings, keeps the last good readings and the ready flag, and makes the aligner BLIND when the run has reached
the cut limit. R24 (6), R132: an acceptance out of BLIND raises STATION RESTORED and runs the Dispatcher, after all steps of
R133 and then the entry into LOCKED (the model's choices: logs 8, 54). R102: in each of these cases the bay acts on the
flags it has taken. A shuttle that waits at the bay's door moves when it shows open (R92; before the rest, the model's
choice: log 43). A latch that shows RELEASED where it is to hold is a breach (R117). A flag that the bay's step waits for
ends it: CLOSE goes on to LOCK with 30 s (R111), LOCK to CONDITION with its time (R112), a CONDITION that wants ready to
SEALED with BAY SEALED, which a station-fault report does not do, UNLOCK to OPEN with 90 s, and OPEN to UNLOADING with BAY
UNLOADING, from which a bay that holds nothing goes on to EMPTY (R116, R107); where the flag of the next step is there
already, that step ends at once. A press of the button is then a seal request in FILLING (R108), UNLOAD REQUEST in SEALED,
and BUTTON in any other state that these have left (R118). -/
def Obligations.AcceptedReportsAreCredited : Prop :=
  ∀ (b k : Nat) (e : BitVec 4) (r : Report) (s : State), s.powered = true →
    s.stationLink.exchange = some (.poll r.address) → bayOfAddress r.address s = some b →
    let x := lineFree (begin s)
    let old := s.aligner b
    let follows := (old.state = .locked ∧ old.expected = some r.sequence) ∨
      ((old.state = .syncing ∨ old.state = .blind) ∧ old.candidate = some (r.sequence - 1))
    let good := (max (-400) (min 900 r.temperature), max 0 (min 1000 r.humidity))
    let late := some (s.oscillator + ((s.settings b).period + (s.settings b).period / 2))
    let interval : Interval :=
      { bay := b, kind := .reported, readings := some good, length := max 10 (min 600 r.period), arrival := s.clock }
    let credited := fun (c : CastPart) =>
      if c.state.credited = true ∧ (∃ p, c.placed = some p ∧ p < s.clock) then
        evaluateCast (s.cls c.cls) s.clock (creditCast (s.cls c.cls) interval c)
      else c
    (follows → r.fault = false →
      ∃ t, exec (.conditionReport r) s = .next t ∧
        t.aligner b =
          { old with
            state := .locked, expected := some (r.sequence + 1), candidate := none, run := 0, lastGood := some good
            lateTimer := late, misinserted := false
            counters := { old.counters with accepted := old.counters.accepted + 1 } } ∧
        (t.bay b).door = (if r.doorClosed then .closed else .opened) ∧
        (t.bay b).latch = (if r.latched then .engaged else .released) ∧
        (t.bay b).ready = (if r.ready then .ready else .notReady) ∧
        ((r.latched = true ∨ breachPlace (s.bayState b) (s.bay b).step = false) →
          ∀ p c, s.castAt p = some c → t.castAt p = some (if p ∈ bayPositions b then credited c else c))) ∧
    (old.state = .locked → old.expected = some e → r.sequence = e + BitVec.ofNat 4 k → 1 ≤ k → k ≤ 6 → r.fault = false →
      exec (.conditionReport r) s = .next (settle (acceptLocked b r (insertLost b k x))) ∧
      ∃ t, exec (.conditionReport r) s = .next t ∧
        t.aligner b =
          { old with
            expected := some (r.sequence + 1), candidate := none, run := 0, lastGood := some good
            lateTimer := late, misinserted := false
            counters :=
              { old.counters with
                accepted := old.counters.accepted + 1, lost := old.counters.lost + BitVec.ofNat 16 k
                substituted := old.counters.substituted + BitVec.ofNat 16 k } }) ∧
    (old.state = .locked → old.expected = some r.sequence → r.fault = true →
      let run := min 60 (old.run + 1)
      let cut := (s.settings b).cutLimit ≤ run
      ∃ t, exec (.conditionReport r) s = .next t ∧
        t.aligner b =
          { old with
            state := if cut then .blind else .locked
            expected := if cut then none else some (r.sequence + 1)
            candidate := none, run := run, lateTimer := if cut then none else late, misinserted := false
            counters :=
              { old.counters with
                accepted := old.counters.accepted + 1, substituted := old.counters.substituted + 1 } } ∧
        (t.bay b).door = (if r.doorClosed then .closed else .opened) ∧
        (t.bay b).latch = (if r.latched then .engaged else .released) ∧ (t.bay b).ready = (s.bay b).ready) ∧
    (old.state = .blind → old.candidate = some (r.sequence - 1) → r.fault = false →
      Completes (.conditionReport r) s
        (dispatch (raise (.stationRestored b r.sequence s.clock) (lockOn b r (acceptReport b r x)))) []) ∧
    -- R102: the bay acts on the flags
    (let accepts :=
       (old.state = .locked ∧ old.expected = some e ∧ r.sequence = e + BitVec.ofNat 4 k ∧ k ≤ 6) ∨
       (k = 0 ∧ (old.state = .syncing ∨ old.state = .blind) ∧ old.candidate = some (r.sequence - 1) ∧ r.fault = false)
     let credit := takeInterval b r (if k = 0 then x else insertLost b k x)
     let taken := withBay b (fun c =>
       { c with
         door := if r.doorClosed then .closed else .opened
         latch := if r.latched then .engaged else .released
         ready := if r.fault then c.ready else if r.ready then .ready else .notReady }) credit
     let flags :=
       match s.shuttle.state, s.transit with
       | .waitingDoor, h :: _ =>
         if bayOf h.position = b ∧ r.doorClosed = false then
           emit (.place h.position) { taken with shuttle := { state := .moving, doorWait := none } }
         else taken
       | _, _ => taken
     let ends := fun (y : State) =>
       let z := lockOn b r (startLate b
         (withAligner b (fun a => { a with counters := { a.counters with accepted := a.counters.accepted + 1 } }) y))
       if old.state = .blind then dispatch (raise (.stationRestored b r.sequence s.clock) z)
       else if r.fault then cutTest b z else z
     let pressed := fun (y : State) =>
       match y.bayState b with
       | .filling => if bayAwaits b y then setBayState b .sealPending y else enterSealing b y
       | .sealed => raise (.unloadRequest b s.clock) y
       | st => raise (.button b st (y.bay b).step) y
     let becomes := fun (y : State) =>
       exec (.conditionReport r) s = .next (settle (ends (if r.button then pressed y else y)))
     let takes := fun (st : SeqStep) (seconds : Nat) (y : State) =>
       withBay b (fun c => { c with step := some st, deadline := some (s.oscillator + seconds) }) y
     let stepless := fun (y : State) =>
       withBay b (fun c => { c with step := none, deadline := none, readyWanted := false }) y
     let lock := fun (y : State) => takes .lock 30 (actuate b .lock y)
     let condition := fun (y : State) =>
       let time := (s.settings b).settle
       let on := setConditioning b true y
       if time = 0 then withBay b (fun c => { c with readyWanted := true }) (takes .condition 3600 on)
       else takes .condition time on
     let opening := fun (y : State) => takes .doorOpen 90 (actuate b .doorOpen y)
     let unloading := fun (y : State) =>
       let z := raise (.bayUnloading b (bayCount Entry.isOccupied b y)) (setBayState b .unloading (stepless y))
       if bayReserved b y || bayOccupied b y then z
       else dispatch (raise (.bayEmpty b .unloading) (actuate b .doorClose (setBayState b .empty z)))
     let stands := fun (st : BayState) (step : SeqStep) => s.bayState b = st ∧ (s.bay b).step = some step
     let breaches := r.latched = false ∧
       (s.bayState b = .sealed ∨ stands .sealing .condition ∨ stands .unsealing .cool)
     let confirms := r.latched = true ∧ (s.bay b).readyWanted = true ∧ r.ready = true ∧ r.fault = false
     let shown := (stands .sealing .close ∧ r.doorClosed = true) ∨ (stands .sealing .lock ∧ r.latched = true) ∨
       (stands .sealing .condition ∧ confirms) ∨ (stands .unsealing .unlock ∧ r.latched = false) ∨
       (stands .unsealing .doorOpen ∧ r.doorClosed = false)
     accepts →
      (breaches → becomes (breach b flags)) ∧
      (stands .sealing .close → r.doorClosed = true → r.latched = false → becomes (lock flags)) ∧
      (stands .sealing .close → r.doorClosed = true → r.latched = true → becomes (condition (lock flags))) ∧
      (stands .sealing .lock → r.latched = true → becomes (condition flags)) ∧
      (stands .sealing .condition → confirms →
        becomes (raise (.baySealed b s.clock) (setBayState b .sealed (stepless flags)))) ∧
      (stands .unsealing .unlock → r.latched = false → r.doorClosed = true → becomes (opening flags)) ∧
      (stands .unsealing .unlock → r.latched = false → r.doorClosed = false → becomes (unloading (opening flags))) ∧
      (stands .unsealing .doorOpen → r.doorClosed = false → becomes (unloading flags)) ∧
      (¬ breaches → ¬ shown → becomes flags))

/-- R130 (3), R131: in LOCKED, a report whose sequence lies 7 to 15 ahead of the expected one is discarded: only the
misinserted counter and the mark change, or, with the mark set, the aligner enters SYNCING with the report's sequence as
its candidate. R132: in SYNCING or BLIND, a report without a station fault that does not follow the candidate becomes
the candidate, and one with a station fault changes nothing. -/
def Obligations.ReportOutOfPlaceIsSetAside : Prop :=
  ∀ (b : Nat) (e : BitVec 4) (r : Report) (s : State), s.powered = true → 1 ≤ b → b ≤ 12 →
    s.stationLink.exchange = some (.poll r.address) → bayOfAddress r.address s = some b →
    let counted := { (s.aligner b).counters with misinserted := (s.aligner b).counters.misinserted + 1 }
    ((s.aligner b).state = .locked → (s.aligner b).expected = some e → 7 ≤ (r.sequence - e).toNat →
      (s.aligner b).misinserted = false →
      Completes (.conditionReport r) s
        (withAligner b (fun a => { a with counters := counted, misinserted := true }) (lineFree s)) []) ∧
    ((s.aligner b).state = .locked → (s.aligner b).expected = some e → 7 ≤ (r.sequence - e).toNat →
      (s.aligner b).misinserted = true →
      Completes (.conditionReport r) s
        (withAligner b (fun a =>
          { a with counters := counted, misinserted := false, state := .syncing, expected := none,
                   candidate := some r.sequence }) (lineFree s)) []) ∧
    (((s.aligner b).state = .syncing ∨ (s.aligner b).state = .blind) → r.fault = false →
      (s.aligner b).candidate ≠ some (r.sequence - 1) →
      Completes (.conditionReport r) s
        (withAligner b (fun a => { a with candidate := some r.sequence }) (lineFree s)) []) ∧
    (((s.aligner b).state = .syncing ∨ (s.aligner b).state = .blind) → r.fault = true →
      Completes (.conditionReport r) s (lineFree s) [])

/-- R136, R138: a late-timer expiry, once its time has been reached and not before (log 3), raises the expiry and
substitution counters and the run, which stops at 60, raises the expected sequence, and makes the aligner BLIND when the run has reached the
cut limit; otherwise the timer is restarted. R135: a substitute takes its value from its place in the run: hold-last at
places 1 and 2, a datum interval from the third on and wherever no last good reading is held. R150: its interval, of the
bay's period, is credited to every cast of the bay that is credited and was placed before, and the cast is evaluated; no
other cast changes. -/
def Obligations.LateTimerExpirySubstitutes : Prop :=
  (∀ (b : Nat) (s : State), s.powered = true → 1 ≤ b → b ≤ 12 → due s.oscillator (s.aligner b).lateTimer = true →
    (s.aligner b).state ≠ .blind →
    let run := min 60 ((s.aligner b).run + 1)
    let value := substituteOf run (s.aligner b).lastGood
    let interval : Interval :=
      { bay := b, kind := value.1, readings := value.2, length := (s.settings b).period, arrival := s.clock }
    let credited := fun (c : CastPart) =>
      if c.state.credited = true ∧ (∃ p, c.placed = some p ∧ p < s.clock) then
        evaluateCast (s.cls c.cls) s.clock (creditCast (s.cls c.cls) interval c)
      else c
    ∃ t, exec (.lateTimerExpiry b) s = .next t ∧ (t.aligner b).run = run ∧
      (t.aligner b).counters.late = (s.aligner b).counters.late + 1 ∧
      (t.aligner b).counters.substituted = (s.aligner b).counters.substituted + 1 ∧
      ((s.settings b).cutLimit ≤ run →
        (t.aligner b).state = .blind ∧ (t.aligner b).lateTimer = none ∧ (t.aligner b).expected = none ∧
        (t.aligner b).candidate = none) ∧
      (run < (s.settings b).cutLimit →
        (t.aligner b).state = (s.aligner b).state ∧ (t.aligner b).expected = (s.aligner b).expected.map (· + 1) ∧
        (t.aligner b).lateTimer = some (s.oscillator + ((s.settings b).period + (s.settings b).period / 2))) ∧
      (∀ p c, s.castAt p = some c → t.castAt p = some (if p ∈ bayPositions b then credited c else c)) ∧
      t.orders = s.orders ∧ t.transit = s.transit ∧ t.mixers = s.mixers ∧ t.bays = s.bays ∧
      t.store.batches = s.store.batches ∧ t.store.settings = s.store.settings) ∧
  (∀ (b : Nat) (s : State), s.powered = true → due s.oscillator (s.aligner b).lateTimer = false →
    Completes (.lateTimerExpiry b) s s []) ∧
  (∀ (run : Nat) (v : Int × Nat),
    substituteOf run none = (.datum, none) ∧
    (run ≤ 2 → substituteOf run (some v) = (.holdLast, some v)) ∧
    (3 ≤ run → substituteOf run (some v) = (.datum, none)))

/-! ### Curing and removal (8, 9) -/

/-- R150 to R153, for every interval and cast: an interval that stands in for a lost report raises the substituted count,
which saturates at 65,535 (R146). R151 (1) to (5), R153: one with readings gives the credit, capped at Tcap, never negative,
and saturating at 4,000,000, the overheat flag above Tcap, and dry seconds below the minimum humidity. R152: a DATUM interval,
and every interval of a cast whose class is UNDEFINED, gives gap seconds and neither credit, dry seconds nor overheat. Nothing
else of the cast changes. -/
def Obligations.CreditOfAnInterval : Prop :=
  ∀ (k : ClassRecord) (i : Interval) (c : CastPart) (t : Int) (h : Nat),
    let counted := if i.kind = .reported then c.substituted else min 65535 (c.substituted + 1)
    let unmeasured := { c with substituted := counted, gap := min 4294967295 (c.gap + i.length) }
    (i.readings = some (t, h) →
      creditCast (some k) i c =
        { c with
          substituted := counted
          maturity :=
            min 4000000 (c.maturity + (max 0 ((if t > k.cap then k.cap else t) - k.datum)).toNat * i.length / 360)
          dry := if h < 10 * k.minHumidity then min 4294967295 (c.dry + i.length) else c.dry
          flags := { c.flags with overheat := c.flags.overheat || decide (t > k.cap) } }) ∧
    (i.readings = none → creditCast (some k) i c = unmeasured) ∧
    creditCast none i c = unmeasured

/-- R157 (1) to (5): what the evaluation of a cast in CURING, OVERDUE or HELD gives for a DEFINED class: GAP and DRY beyond
the allowances of a cast not assessed, then HELD with any cause, RELEASABLE, OVERDUE or CURING. R158: a RELEASABLE cast is
not tested; it becomes HELD by a cause it has, and otherwise stays as it is. For an UNDEFINED class every one of these takes
RECORD alone and is HELD. R156: a cast in TRANSIT or STRAYED is left as it is. -/
def Obligations.EvaluationGivesTheState : Prop :=
  ∀ (k : ClassRecord) (cls : Option ClassRecord) (clock : Nat) (c : CastPart),
    let e := evaluateCast (some k) clock c
    let gapOver := decide (k.gapAllow * 60 < c.gap) && !c.flags.assessed
    let dryOver := decide (k.dryAllow * 60 < c.dry) && !c.flags.assessed
    let clean := (c.causes.any || gapOver || dryOver) = false
    let short := c.maturity < k.target ∨ clock - c.pourTime < k.minAge * 3600
    let tested := c.state = .curing ∨ c.state = .overdue ∨ c.state = .held
    let takes := { c with causes := { c.causes with gap := c.causes.gap || gapOver, dry := c.causes.dry || dryOver } }
    -- R157
    (tested → ¬ clean → e = { takes with state := .held }) ∧
    (tested → clean → k.target ≤ c.maturity → k.minAge * 3600 ≤ clock - c.pourTime →
      e = { takes with state := .releasable }) ∧
    (tested → clean → short → k.maxAge * 3600 < clock - c.pourTime →
      e = { takes with state := .overdue, flags := { c.flags with overdue := true } }) ∧
    (tested → clean → short → clock - c.pourTime ≤ k.maxAge * 3600 → e = { takes with state := .curing }) ∧
    -- R158
    (c.state = .releasable → c.causes.any = true → e = { c with state := .held }) ∧
    (c.state = .releasable → c.causes.any = false → e = c) ∧
    -- a class UNDEFINED; a cast not placed
    ((tested ∨ c.state = .releasable) →
      evaluateCast none clock c = { c with causes := { c.causes with record := true }, state := .held }) ∧
    ((c.state = .transit ∨ c.state = .strayed) → evaluateCast cls clock c = c)

/-- R154, R155: a minute timer expiry, once the clock has reached its time and not before (log 3), adds 60 s of gap to every
STRAYED cast, and to every placed cast whose bay's aligner is BLIND, MISMATCH or UNBOUND, gives the latter the blind flag,
leaves a TRANSIT cast as it was, and rewrites the last-stamp; the next expiry is 60 s after the clock (log 38). -/
def Obligations.MinuteExpiryCountsGap : Prop :=
  ∀ (s : State), s.powered = true →
    (s.clock < s.minuteNext → Completes .minuteTimerExpiry s s []) ∧
    (s.minuteNext ≤ s.clock →
      ∃ t, exec .minuteTimerExpiry s = .next t ∧ t.store.lastStamp = s.clock ∧ t.minuteNext = s.clock + 60 ∧
        t.clock = s.clock ∧ t.store.batches = s.store.batches ∧ t.store.settings = s.store.settings ∧
        t.mixers = s.mixers ∧ t.orders = s.orders ∧
        ∀ p c, s.castAt p = some c →
          (c.state = .transit → t.castAt p = some c) ∧
          (c.state = .strayed → t.castAt p = some { c with gap := min 4294967295 (c.gap + 60) }) ∧
          (c.state.credited = true → unheard (s.aligner (bayOf p)).state = true →
            t.castAt p = some (evaluateCast (s.cls c.cls) s.clock
              { c with gap := min 4294967295 (c.gap + 60), flags := { c.flags with blind := true } })) ∧
          (c.state.credited = true → unheard (s.aligner (bayOf p)).state = false →
            t.castAt p = some (evaluateCast (s.cls c.cls) s.clock c)))

/-- R160: CAST ASSESS of a HELD cast removes every hold cause, sets the assessed flag and evaluates the cast; its reply
carries the causes removed and the state given. No other entry changes. A cast ID that no cast part holds is refused with
NO_SUCH, and a cast in any other state with STATE. -/
def Obligations.CastAssessClearsTheCauses : Prop :=
  ∀ (tag id p : Nat) (c : CastPart) (s : State), linkFree s →
    let refused := fun (x : Reason) =>
      Completes (.castAssess tag id) s (s.answered tag (.castAssess id) (.refused x .empty)) []
    let e := evaluateCast (s.cls c.cls) s.clock { c with causes := .empty, flags := { c.flags with assessed := true } }
    ((∀ q x, s.castAt q = some x → x.id ≠ id) → refused .noSuch) ∧
    (findCast id s = some p → s.castAt p = some c → c.state ≠ .held → refused .state) ∧
    (findCast id s = some p → s.castAt p = some c → c.state = .held →
      ∃ t, exec (.castAssess tag id) s = .next t ∧ OnlyEntries s t ∧ t.castAt p = some e ∧
        (∀ q, q ≠ p → t.entry q = s.entry q) ∧
        t.plantLink.sending.map (·.frame) = some (.reply 21 tag (.done (.assessed c.id c.causes e.state))))

/-- R162 to R164, R96: CAST PLACE. Of a STRAYED cast at its own position, in a bay that is not SEAL_PENDING, it makes it
CURING there with its placement time, and evaluates it; no other entry changes. Of a STRAYED cast to a FREE position of a
bay that is not ABSENT it moves it there as well, and frees the old position (no order waiting). Of the TRANSIT cast at the
head of the Transit Queue of a FAULTED shuttle, to a FREE position of a bay open to the reservation walk, it redirects the
cast: the entry moves, the queue names the new position, and the shuttle takes the head again, its door wait a time of the
oscillator (log 2). Refused, it changes nothing:
NO_SUCH for a cast that is not held; RANGE for a position that is none, or is not FREE; STATE for an ABSENT bay or one not
open, for a TRANSIT cast that is not the head of a FAULTED shuttle, and for a cast in any other state. -/
def Obligations.CastPlaceConfirmsMovesOrRedirects : Prop :=
  ∀ (tag id old p : Nat) (c : CastPart) (h : TransitEntry) (rest : List TransitEntry) (s : State), linkFree s →
    let q := Request.castPlace id p
    let refused := fun (x : Reason) => Completes (.castPlace tag id p) s (s.answered tag q (.refused x .empty)) []
    let real := 1 ≤ p ∧ p ≤ 288
    let e := evaluateCast (s.cls c.cls) s.clock { c with state := .curing, placed := some s.clock }
    let shut := ¬ ((s.bayState (bayOf p) = .empty ∨ s.bayState (bayOf p) = .filling) ∧
      ((s.aligner (bayOf p)).state = .syncing ∨ (s.aligner (bayOf p)).state = .locked))
    let moved := fun (new : CastPart) (t : State) =>
      t.castAt p = some new ∧ t.entry old = .free ∧ (∀ j, j ≠ old → j ≠ p → t.entry j = s.entry j) ∧
      t.store.batches = s.store.batches ∧ t.mixers = s.mixers ∧ HallKept s t ∧
      (s.bayState (bayOf p) = .empty → (s.settings (bayOf p)).autoSeal = false → t.bayState (bayOf p) = .filling)
    (findCast id s = none → refused .noSuch) ∧
    (findCast id s = some old → s.castAt old = some c →
      (c.state = .strayed → p = old → s.bayState (bayOf p) ≠ .sealPending →
        ∃ t, exec (.castPlace tag id p) s = .next t ∧ OnlyEntries s t ∧ t.castAt p = some e ∧
          (∀ j, j ≠ p → t.entry j = s.entry j) ∧
          t.plantLink.sending.map (·.frame) = some (.reply 19 tag (.done (.confirmed c.id p e.state)))) ∧
      (c.state = .strayed → s.entry p = .free → s.bayState (bayOf p) ≠ .absent → s.orders = [] →
        ∃ t, exec (.castPlace tag id p) s = .next t ∧ moved e t ∧ t.transit = s.transit ∧ t.shuttle = s.shuttle ∧
          t.plantLink.sending.map (·.frame) = some (.reply 19 tag (.done (.moved c.id old p e.state)))) ∧
      (c.state = .strayed → (¬ real ∨ (p ≠ old ∧ s.entry p ≠ .free)) → refused .range) ∧
      (c.state = .strayed → s.entry p = .free → s.bayState (bayOf p) = .absent → refused .state) ∧
      (c.state = .transit → (s.shuttle.state ≠ .faulted ∨ s.transit = []) → refused .state) ∧
      (c.state = .transit → s.shuttle.state = .faulted → s.transit = h :: rest →
        (h.cast ≠ id → refused .state) ∧
        (h.cast = id → (¬ real ∨ s.entry p ≠ .free) → refused .range) ∧
        (h.cast = id → s.entry p = .free → shut → refused .state) ∧
        (h.cast = id → s.entry p = .free → ¬ shut → s.orders = [] →
          ∃ t, exec (.castPlace tag id p) s = .next t ∧ moved c t ∧ t.transit = { h with position := p } :: rest ∧
            t.shuttle =
              (if (s.bay (bayOf p)).door = .opened then { state := .moving, doorWait := none }
              else { state := .waitingDoor, doorWait := some (s.oscillator + 90) }) ∧
            t.plantLink.sending.map (·.frame) = some (.reply 19 tag (.done .empty)))) ∧
      (c.state.credited = true → refused .state))

/-- R167, R169, R170, R172: CAST TAKE of a placed cast of an UNLOADING bay, RELEASABLE or by force, and CAST DISCARD of a
STRAYED cast, by cast ID or by position, free the entry, lower the live cast count of the batch, and answer with the
certificate of the cast as it stood. The slot of an ended batch that keeps no cast is freed; a running batch keeps its slot
at a count of 0. R171, R107, R110: with the last cast of a bay that has no RESERVED position a bay in UNLOADING, or at a
discard in FILLING or SEAL_PENDING, enters EMPTY, with the door-close actuation and BAY EMPTY behind the reply; a bay in
another state keeps it; a SEAL_PENDING bay that keeps casts and awaits none begins SEALING. Table 9.1, R172: a refused
request changes nothing: RANGE for a number out of its range, NO_SUCH where no cast part answers to it; for CAST TAKE,
STATE for a cast in TRANSIT or STRAYED or a bay that is not UNLOADING, and NOT_RELEASABLE for a cast that is not
RELEASABLE when force is clear; for CAST DISCARD, STATE for a cast that is not STRAYED. -/
def Obligations.RemovalFreesTheEntry : Prop :=
  ∀ (tag id p : Nat) (ref : CastRef) (force : Bool) (c : CastPart) (r : BatchRecord) (s : State), linkFree s →
    let b := bayOf p
    let takes := fun (f : Bool) (x : State) (k : Reply) =>
      Completes (.castTake tag ref f) s (x.answered tag (.castTake ref f) k) []
    let discards := fun (x : State) (k : Reply) =>
      Completes (.castDiscard tag ref) s (x.answered tag (.castDiscard ref) k) []
    let refused := fun (x : Reason) => takes force s (.refused x .empty) ∧ discards s (.refused x .empty)
    let placed := c.state ≠ .transit ∧ c.state ≠ .strayed
    let idOf := ref = .byId id ∧ 1 ≤ id ∧ id ≤ 16777215
    let positionOf := ref = .byPosition p ∧ 1 ≤ p ∧ p ≤ 288
    -- the checks
    (ref = .byId id → (id < 1 ∨ 16777215 < id) → refused .range) ∧
    (ref = .byPosition p → (p < 1 ∨ 288 < p) → refused .range) ∧
    (idOf → findCast id s = none → refused .noSuch) ∧
    (positionOf → s.castAt p = none → refused .noSuch) ∧
    (((idOf ∧ findCast id s = some p) ∨ positionOf) → s.castAt p = some c →
      (¬ placed → takes force s (.refused .state .empty)) ∧
      (placed → s.bayState b ≠ .unloading → takes force s (.refused .state .empty)) ∧
      (placed → s.bayState b = .unloading → c.state ≠ .releasable → takes false s (.refused .notReleasable .empty)) ∧
      (c.state ≠ .strayed → discards s (.refused .state .empty)) ∧
      -- the removal
      (s.orders = [] → s.batch c.slot = some r → r.id = c.batch →
        let count := r.live - 1
        let kept := if r.endTime.isSome = true ∧ count = 0 then none else some { r with live := count }
        let gone := writeBatch c.slot kept (writeEntry p .free s)
        let others := ∃ q ∈ bayPositions b, q ≠ p ∧ (s.castAt q).isSome = true
        let reserved := ∃ q ∈ bayPositions b, ∃ sl i, q ≠ p ∧ s.entry q = .reserved sl i
        let emptied := queueNotice (.bayEmpty b (s.bayState b)) (actuate b .doorClose (setBayState b .empty gone))
        let released := Reply.done (.certificate (certificateOf .release p c (decide (c.state ≠ .releasable)) s.clock))
        let discarded := Reply.done (.certificate (certificateOf .discard p c false s.clock))
        let empties := s.bayState b = .filling ∨ s.bayState b = .sealPending ∨ s.bayState b = .unloading
        (placed → s.bayState b = .unloading → (c.state = .releasable ∨ force = true) →
          ((others ∨ reserved) → takes force gone released) ∧
          (¬ others → ¬ reserved → takes force emptied released)) ∧
        (c.state = .strayed →
          (¬ empties → discards gone discarded) ∧
          (empties → ¬ others → ¬ reserved → discards emptied discarded) ∧
          (empties → (others ∨ reserved) → s.bayState b ≠ .sealPending → discards gone discarded) ∧
          (s.bayState b = .sealPending → (others ∨ reserved) → bayAwaits b gone = true → discards gone discarded) ∧
          (s.bayState b = .sealPending → others → bayAwaits b gone = false →
            discards (enterSealing b gone) discarded))))
end

