-- ==== Sys2Proof/Laws/State.lean ====
section
/-! SUPPORT. What each named update leaves of the state, field by field, so that no proof unfolds a record update; the operations that send (kick, raise, settle) change only their links and the outputs. -/

namespace Sys2Proof.Machine

/-! ### A command's meaning -/

/-- The end of a frame is the transmitter's event (R179). -/
theorem exec_frameSent (s : State) : exec .frameSent s = command frameEnds s := by simp [exec, execFrameSent]

/-- With the transmitter idle, the end of a frame does nothing but what ends every command. -/
theorem exec_frameSent_idle (s : State) (h : s.plantLink.sending = none) :
    exec .frameSent s = .next (if s.powered = true then settle (begin s) else begin s) := by
  simp [exec, execFrameSent, command, frameEnds, begin, h]

/-! ### Tables and pairs -/

@[simp] theorem get_put_same {α : Type} (p : PerMixer α) (m : Mixer) (v : α) : (p.put m v).get m = v := by
  cases m <;> rfl

theorem get_put_other {α : Type} (p : PerMixer α) (m k : Mixer) (v : α) (h : k ≠ m) : (p.put m v).get k = p.get k := by
  cases m <;> cases k <;> first | rfl | exact absurd rfl h

@[simp] theorem put_put {α : Type} (p : PerMixer α) (m : Mixer) (v w : α) : (p.put m v).put m w = p.put m w := by
  cases m <;> rfl

@[simp] theorem put_get {α : Type} (p : PerMixer α) (m : Mixer) : p.put m (p.get m) = p := by cases m <;> rfl

theorem at1_put1_same {α : Type} {n : Nat} (v : Vector α n) (i : Nat) (x d : α) (h : 1 ≤ i ∧ i ≤ n) :
    at1 (put1 v i x) i d = x := by
  cases i with
  | zero => omega
  | succ k => have hk : k < n := by omega
              simp [at1, put1, hk]

theorem at1_put1_other {α : Type} {n : Nat} (v : Vector α n) (i j : Nat) (x d : α) (h : j ≠ i) :
    at1 (put1 v i x) j d = at1 v j d := by
  cases i with
  | zero => rfl
  | succ k => cases j with
    | zero => rfl
    | succ l => simp [at1, put1, show ¬ k = l by omega]

theorem put1_put1 {α : Type} {n : Nat} (v : Vector α n) (i : Nat) (x y : α) : put1 (put1 v i x) i y = put1 v i y := by
  cases i with
  | zero => rfl
  | succ k =>
    apply Vector.ext
    intro j hj
    simp only [put1, Vector.getElem_setIfInBounds]
    split <;> rfl

/-! ### emit -/

@[simp] theorem emit_powered (o : Output) (s : State) : (emit o s).powered = s.powered := rfl
@[simp] theorem emit_oscillator (o : Output) (s : State) : (emit o s).oscillator = s.oscillator := rfl
@[simp] theorem emit_clock (o : Output) (s : State) : (emit o s).clock = s.clock := rfl
@[simp] theorem emit_batteryFail (o : Output) (s : State) : (emit o s).batteryFail = s.batteryFail := rfl
@[simp] theorem emit_minuteNext (o : Output) (s : State) : (emit o s).minuteNext = s.minuteNext := rfl
@[simp] theorem emit_store (o : Output) (s : State) : (emit o s).store = s.store := rfl
@[simp] theorem emit_journal (o : Output) (s : State) : (emit o s).journal = s.journal := rfl
@[simp] theorem emit_orders (o : Output) (s : State) : (emit o s).orders = s.orders := rfl
@[simp] theorem emit_batteryCleared (o : Output) (s : State) : (emit o s).batteryCleared = s.batteryCleared := rfl
@[simp] theorem emit_mixers (o : Output) (s : State) : (emit o s).mixers = s.mixers := rfl
@[simp] theorem emit_stations (o : Output) (s : State) : (emit o s).stations = s.stations := rfl
@[simp] theorem emit_arbiter (o : Output) (s : State) : (emit o s).arbiter = s.arbiter := rfl
@[simp] theorem emit_transit (o : Output) (s : State) : (emit o s).transit = s.transit := rfl
@[simp] theorem emit_spaceList (o : Output) (s : State) : (emit o s).spaceList = s.spaceList := rfl
@[simp] theorem emit_shuttle (o : Output) (s : State) : (emit o s).shuttle = s.shuttle := rfl
@[simp] theorem emit_bays (o : Output) (s : State) : (emit o s).bays = s.bays := rfl
@[simp] theorem emit_aligners (o : Output) (s : State) : (emit o s).aligners = s.aligners := rfl
@[simp] theorem emit_stationLink (o : Output) (s : State) : (emit o s).stationLink = s.stationLink := rfl
@[simp] theorem emit_plantLink (o : Output) (s : State) : (emit o s).plantLink = s.plantLink := rfl
@[simp] theorem emit_outputs (o : Output) (s : State) : (emit o s).outputs = s.outputs ++ [o] := rfl
@[simp] theorem emit_readings (o : Output) (s : State) : (emit o s).readings = s.readings := rfl
@[simp] theorem emit_pending (o : Output) (s : State) : (emit o s).pending = s.pending := rfl

/-! ### withSeq -/

@[simp] theorem withSeq_powered (m : Mixer) (f : Sequencer → Sequencer) (s : State) : (withSeq m f s).powered = s.powered := rfl
@[simp] theorem withSeq_oscillator (m : Mixer) (f : Sequencer → Sequencer) (s : State) : (withSeq m f s).oscillator = s.oscillator := rfl
@[simp] theorem withSeq_clock (m : Mixer) (f : Sequencer → Sequencer) (s : State) : (withSeq m f s).clock = s.clock := rfl
@[simp] theorem withSeq_batteryFail (m : Mixer) (f : Sequencer → Sequencer) (s : State) : (withSeq m f s).batteryFail = s.batteryFail := rfl
@[simp] theorem withSeq_minuteNext (m : Mixer) (f : Sequencer → Sequencer) (s : State) : (withSeq m f s).minuteNext = s.minuteNext := rfl
@[simp] theorem withSeq_store (m : Mixer) (f : Sequencer → Sequencer) (s : State) : (withSeq m f s).store = s.store := rfl
@[simp] theorem withSeq_journal (m : Mixer) (f : Sequencer → Sequencer) (s : State) : (withSeq m f s).journal = s.journal := rfl
@[simp] theorem withSeq_orders (m : Mixer) (f : Sequencer → Sequencer) (s : State) : (withSeq m f s).orders = s.orders := rfl
@[simp] theorem withSeq_batteryCleared (m : Mixer) (f : Sequencer → Sequencer) (s : State) : (withSeq m f s).batteryCleared = s.batteryCleared := rfl
@[simp] theorem withSeq_mixers (m : Mixer) (f : Sequencer → Sequencer) (s : State) : (withSeq m f s).mixers = s.mixers.put m (f (s.seq m)) := rfl
@[simp] theorem withSeq_stations (m : Mixer) (f : Sequencer → Sequencer) (s : State) : (withSeq m f s).stations = s.stations := rfl
@[simp] theorem withSeq_arbiter (m : Mixer) (f : Sequencer → Sequencer) (s : State) : (withSeq m f s).arbiter = s.arbiter := rfl
@[simp] theorem withSeq_transit (m : Mixer) (f : Sequencer → Sequencer) (s : State) : (withSeq m f s).transit = s.transit := rfl
@[simp] theorem withSeq_spaceList (m : Mixer) (f : Sequencer → Sequencer) (s : State) : (withSeq m f s).spaceList = s.spaceList := rfl
@[simp] theorem withSeq_shuttle (m : Mixer) (f : Sequencer → Sequencer) (s : State) : (withSeq m f s).shuttle = s.shuttle := rfl
@[simp] theorem withSeq_bays (m : Mixer) (f : Sequencer → Sequencer) (s : State) : (withSeq m f s).bays = s.bays := rfl
@[simp] theorem withSeq_aligners (m : Mixer) (f : Sequencer → Sequencer) (s : State) : (withSeq m f s).aligners = s.aligners := rfl
@[simp] theorem withSeq_stationLink (m : Mixer) (f : Sequencer → Sequencer) (s : State) : (withSeq m f s).stationLink = s.stationLink := rfl
@[simp] theorem withSeq_plantLink (m : Mixer) (f : Sequencer → Sequencer) (s : State) : (withSeq m f s).plantLink = s.plantLink := rfl
@[simp] theorem withSeq_outputs (m : Mixer) (f : Sequencer → Sequencer) (s : State) : (withSeq m f s).outputs = s.outputs := rfl
@[simp] theorem withSeq_readings (m : Mixer) (f : Sequencer → Sequencer) (s : State) : (withSeq m f s).readings = s.readings := rfl
@[simp] theorem withSeq_pending (m : Mixer) (f : Sequencer → Sequencer) (s : State) : (withSeq m f s).pending = s.pending := rfl

/-! ### withStation -/

@[simp] theorem withStation_powered (m : Mixer) (f : PourStation → PourStation) (s : State) : (withStation m f s).powered = s.powered := rfl
@[simp] theorem withStation_oscillator (m : Mixer) (f : PourStation → PourStation) (s : State) : (withStation m f s).oscillator = s.oscillator := rfl
@[simp] theorem withStation_clock (m : Mixer) (f : PourStation → PourStation) (s : State) : (withStation m f s).clock = s.clock := rfl
@[simp] theorem withStation_batteryFail (m : Mixer) (f : PourStation → PourStation) (s : State) : (withStation m f s).batteryFail = s.batteryFail := rfl
@[simp] theorem withStation_minuteNext (m : Mixer) (f : PourStation → PourStation) (s : State) : (withStation m f s).minuteNext = s.minuteNext := rfl
@[simp] theorem withStation_store (m : Mixer) (f : PourStation → PourStation) (s : State) : (withStation m f s).store = s.store := rfl
@[simp] theorem withStation_journal (m : Mixer) (f : PourStation → PourStation) (s : State) : (withStation m f s).journal = s.journal := rfl
@[simp] theorem withStation_orders (m : Mixer) (f : PourStation → PourStation) (s : State) : (withStation m f s).orders = s.orders := rfl
@[simp] theorem withStation_batteryCleared (m : Mixer) (f : PourStation → PourStation) (s : State) : (withStation m f s).batteryCleared = s.batteryCleared := rfl
@[simp] theorem withStation_mixers (m : Mixer) (f : PourStation → PourStation) (s : State) : (withStation m f s).mixers = s.mixers := rfl
@[simp] theorem withStation_stations (m : Mixer) (f : PourStation → PourStation) (s : State) : (withStation m f s).stations = s.stations.put m (f (s.station m)) := rfl
@[simp] theorem withStation_arbiter (m : Mixer) (f : PourStation → PourStation) (s : State) : (withStation m f s).arbiter = s.arbiter := rfl
@[simp] theorem withStation_transit (m : Mixer) (f : PourStation → PourStation) (s : State) : (withStation m f s).transit = s.transit := rfl
@[simp] theorem withStation_spaceList (m : Mixer) (f : PourStation → PourStation) (s : State) : (withStation m f s).spaceList = s.spaceList := rfl
@[simp] theorem withStation_shuttle (m : Mixer) (f : PourStation → PourStation) (s : State) : (withStation m f s).shuttle = s.shuttle := rfl
@[simp] theorem withStation_bays (m : Mixer) (f : PourStation → PourStation) (s : State) : (withStation m f s).bays = s.bays := rfl
@[simp] theorem withStation_aligners (m : Mixer) (f : PourStation → PourStation) (s : State) : (withStation m f s).aligners = s.aligners := rfl
@[simp] theorem withStation_stationLink (m : Mixer) (f : PourStation → PourStation) (s : State) : (withStation m f s).stationLink = s.stationLink := rfl
@[simp] theorem withStation_plantLink (m : Mixer) (f : PourStation → PourStation) (s : State) : (withStation m f s).plantLink = s.plantLink := rfl
@[simp] theorem withStation_outputs (m : Mixer) (f : PourStation → PourStation) (s : State) : (withStation m f s).outputs = s.outputs := rfl
@[simp] theorem withStation_readings (m : Mixer) (f : PourStation → PourStation) (s : State) : (withStation m f s).readings = s.readings := rfl
@[simp] theorem withStation_pending (m : Mixer) (f : PourStation → PourStation) (s : State) : (withStation m f s).pending = s.pending := rfl

@[simp] theorem withStation_station (m : Mixer) (f : PourStation → PourStation) (s : State) :
    (withStation m f s).station m = f (s.station m) := get_put_same _ _ _

theorem withStation_station_other {m k : Mixer} (f : PourStation → PourStation) (s : State) (h : k ≠ m) :
    (withStation m f s).station k = s.station k := get_put_other _ _ _ _ h

/-! ### withBay -/

@[simp] theorem withBay_powered (b : Nat) (f : Bay → Bay) (s : State) : (withBay b f s).powered = s.powered := rfl
@[simp] theorem withBay_oscillator (b : Nat) (f : Bay → Bay) (s : State) : (withBay b f s).oscillator = s.oscillator := rfl
@[simp] theorem withBay_clock (b : Nat) (f : Bay → Bay) (s : State) : (withBay b f s).clock = s.clock := rfl
@[simp] theorem withBay_batteryFail (b : Nat) (f : Bay → Bay) (s : State) : (withBay b f s).batteryFail = s.batteryFail := rfl
@[simp] theorem withBay_minuteNext (b : Nat) (f : Bay → Bay) (s : State) : (withBay b f s).minuteNext = s.minuteNext := rfl
@[simp] theorem withBay_store (b : Nat) (f : Bay → Bay) (s : State) : (withBay b f s).store = s.store := rfl
@[simp] theorem withBay_journal (b : Nat) (f : Bay → Bay) (s : State) : (withBay b f s).journal = s.journal := rfl
@[simp] theorem withBay_orders (b : Nat) (f : Bay → Bay) (s : State) : (withBay b f s).orders = s.orders := rfl
@[simp] theorem withBay_batteryCleared (b : Nat) (f : Bay → Bay) (s : State) : (withBay b f s).batteryCleared = s.batteryCleared := rfl
@[simp] theorem withBay_mixers (b : Nat) (f : Bay → Bay) (s : State) : (withBay b f s).mixers = s.mixers := rfl
@[simp] theorem withBay_stations (b : Nat) (f : Bay → Bay) (s : State) : (withBay b f s).stations = s.stations := rfl
@[simp] theorem withBay_arbiter (b : Nat) (f : Bay → Bay) (s : State) : (withBay b f s).arbiter = s.arbiter := rfl
@[simp] theorem withBay_transit (b : Nat) (f : Bay → Bay) (s : State) : (withBay b f s).transit = s.transit := rfl
@[simp] theorem withBay_spaceList (b : Nat) (f : Bay → Bay) (s : State) : (withBay b f s).spaceList = s.spaceList := rfl
@[simp] theorem withBay_shuttle (b : Nat) (f : Bay → Bay) (s : State) : (withBay b f s).shuttle = s.shuttle := rfl
@[simp] theorem withBay_bays (b : Nat) (f : Bay → Bay) (s : State) : (withBay b f s).bays = put1 s.bays b (f (s.bay b)) := rfl
@[simp] theorem withBay_aligners (b : Nat) (f : Bay → Bay) (s : State) : (withBay b f s).aligners = s.aligners := rfl
@[simp] theorem withBay_stationLink (b : Nat) (f : Bay → Bay) (s : State) : (withBay b f s).stationLink = s.stationLink := rfl
@[simp] theorem withBay_plantLink (b : Nat) (f : Bay → Bay) (s : State) : (withBay b f s).plantLink = s.plantLink := rfl
@[simp] theorem withBay_outputs (b : Nat) (f : Bay → Bay) (s : State) : (withBay b f s).outputs = s.outputs := rfl
@[simp] theorem withBay_readings (b : Nat) (f : Bay → Bay) (s : State) : (withBay b f s).readings = s.readings := rfl
@[simp] theorem withBay_pending (b : Nat) (f : Bay → Bay) (s : State) : (withBay b f s).pending = s.pending := rfl

/-! ### withAligner -/

@[simp] theorem withAligner_powered (b : Nat) (f : Aligner → Aligner) (s : State) : (withAligner b f s).powered = s.powered := rfl
@[simp] theorem withAligner_oscillator (b : Nat) (f : Aligner → Aligner) (s : State) : (withAligner b f s).oscillator = s.oscillator := rfl
@[simp] theorem withAligner_clock (b : Nat) (f : Aligner → Aligner) (s : State) : (withAligner b f s).clock = s.clock := rfl
@[simp] theorem withAligner_batteryFail (b : Nat) (f : Aligner → Aligner) (s : State) : (withAligner b f s).batteryFail = s.batteryFail := rfl
@[simp] theorem withAligner_minuteNext (b : Nat) (f : Aligner → Aligner) (s : State) : (withAligner b f s).minuteNext = s.minuteNext := rfl
@[simp] theorem withAligner_store (b : Nat) (f : Aligner → Aligner) (s : State) : (withAligner b f s).store = s.store := rfl
@[simp] theorem withAligner_journal (b : Nat) (f : Aligner → Aligner) (s : State) : (withAligner b f s).journal = s.journal := rfl
@[simp] theorem withAligner_orders (b : Nat) (f : Aligner → Aligner) (s : State) : (withAligner b f s).orders = s.orders := rfl
@[simp] theorem withAligner_batteryCleared (b : Nat) (f : Aligner → Aligner) (s : State) : (withAligner b f s).batteryCleared = s.batteryCleared := rfl
@[simp] theorem withAligner_mixers (b : Nat) (f : Aligner → Aligner) (s : State) : (withAligner b f s).mixers = s.mixers := rfl
@[simp] theorem withAligner_stations (b : Nat) (f : Aligner → Aligner) (s : State) : (withAligner b f s).stations = s.stations := rfl
@[simp] theorem withAligner_arbiter (b : Nat) (f : Aligner → Aligner) (s : State) : (withAligner b f s).arbiter = s.arbiter := rfl
@[simp] theorem withAligner_transit (b : Nat) (f : Aligner → Aligner) (s : State) : (withAligner b f s).transit = s.transit := rfl
@[simp] theorem withAligner_spaceList (b : Nat) (f : Aligner → Aligner) (s : State) : (withAligner b f s).spaceList = s.spaceList := rfl
@[simp] theorem withAligner_shuttle (b : Nat) (f : Aligner → Aligner) (s : State) : (withAligner b f s).shuttle = s.shuttle := rfl
@[simp] theorem withAligner_bays (b : Nat) (f : Aligner → Aligner) (s : State) : (withAligner b f s).bays = s.bays := rfl
@[simp] theorem withAligner_aligners (b : Nat) (f : Aligner → Aligner) (s : State) : (withAligner b f s).aligners = put1 s.aligners b (f (s.aligner b)) := rfl
@[simp] theorem withAligner_stationLink (b : Nat) (f : Aligner → Aligner) (s : State) : (withAligner b f s).stationLink = s.stationLink := rfl
@[simp] theorem withAligner_plantLink (b : Nat) (f : Aligner → Aligner) (s : State) : (withAligner b f s).plantLink = s.plantLink := rfl
@[simp] theorem withAligner_outputs (b : Nat) (f : Aligner → Aligner) (s : State) : (withAligner b f s).outputs = s.outputs := rfl
@[simp] theorem withAligner_readings (b : Nat) (f : Aligner → Aligner) (s : State) : (withAligner b f s).readings = s.readings := rfl
@[simp] theorem withAligner_pending (b : Nat) (f : Aligner → Aligner) (s : State) : (withAligner b f s).pending = s.pending := rfl

/-! ### write -/

@[simp] theorem write_powered (r : Retained) (s : State) : (write r s).powered = s.powered := rfl
@[simp] theorem write_oscillator (r : Retained) (s : State) : (write r s).oscillator = s.oscillator := rfl
@[simp] theorem write_clock (r : Retained) (s : State) : (write r s).clock = s.clock := rfl
@[simp] theorem write_batteryFail (r : Retained) (s : State) : (write r s).batteryFail = s.batteryFail := rfl
@[simp] theorem write_minuteNext (r : Retained) (s : State) : (write r s).minuteNext = s.minuteNext := rfl
@[simp] theorem write_store (r : Retained) (s : State) : (write r s).store = (s.store.put r).heal r.id := rfl
@[simp] theorem write_orders (r : Retained) (s : State) : (write r s).orders = s.orders := rfl
@[simp] theorem write_batteryCleared (r : Retained) (s : State) : (write r s).batteryCleared = s.batteryCleared := rfl
@[simp] theorem write_mixers (r : Retained) (s : State) : (write r s).mixers = s.mixers := rfl
@[simp] theorem write_stations (r : Retained) (s : State) : (write r s).stations = s.stations := rfl
@[simp] theorem write_arbiter (r : Retained) (s : State) : (write r s).arbiter = s.arbiter := rfl
@[simp] theorem write_transit (r : Retained) (s : State) : (write r s).transit = s.transit := rfl
@[simp] theorem write_spaceList (r : Retained) (s : State) : (write r s).spaceList = s.spaceList := rfl
@[simp] theorem write_shuttle (r : Retained) (s : State) : (write r s).shuttle = s.shuttle := rfl
@[simp] theorem write_bays (r : Retained) (s : State) : (write r s).bays = s.bays := rfl
@[simp] theorem write_aligners (r : Retained) (s : State) : (write r s).aligners = s.aligners := rfl
@[simp] theorem write_stationLink (r : Retained) (s : State) : (write r s).stationLink = s.stationLink := rfl
@[simp] theorem write_plantLink (r : Retained) (s : State) : (write r s).plantLink = s.plantLink := rfl
@[simp] theorem write_outputs (r : Retained) (s : State) : (write r s).outputs = s.outputs := rfl
@[simp] theorem write_readings (r : Retained) (s : State) : (write r s).readings = s.readings := rfl
@[simp] theorem write_pending (r : Retained) (s : State) : (write r s).pending = s.pending := rfl

/-! ### begin -/

@[simp] theorem begin_powered (s : State) : (begin s).powered = s.powered := rfl
@[simp] theorem begin_oscillator (s : State) : (begin s).oscillator = s.oscillator := rfl
@[simp] theorem begin_clock (s : State) : (begin s).clock = s.clock := rfl
@[simp] theorem begin_batteryFail (s : State) : (begin s).batteryFail = s.batteryFail := rfl
@[simp] theorem begin_minuteNext (s : State) : (begin s).minuteNext = s.minuteNext := rfl
@[simp] theorem begin_store (s : State) : (begin s).store = s.store := rfl
@[simp] theorem begin_journal (s : State) : (begin s).journal = [] := rfl
@[simp] theorem begin_orders (s : State) : (begin s).orders = s.orders := rfl
@[simp] theorem begin_batteryCleared (s : State) : (begin s).batteryCleared = none := rfl
@[simp] theorem begin_mixers (s : State) : (begin s).mixers = s.mixers := rfl
@[simp] theorem begin_stations (s : State) : (begin s).stations = s.stations := rfl
@[simp] theorem begin_arbiter (s : State) : (begin s).arbiter = s.arbiter := rfl
@[simp] theorem begin_transit (s : State) : (begin s).transit = s.transit := rfl
@[simp] theorem begin_spaceList (s : State) : (begin s).spaceList = s.spaceList := rfl
@[simp] theorem begin_shuttle (s : State) : (begin s).shuttle = s.shuttle := rfl
@[simp] theorem begin_bays (s : State) : (begin s).bays = s.bays := rfl
@[simp] theorem begin_aligners (s : State) : (begin s).aligners = s.aligners := rfl
@[simp] theorem begin_stationLink (s : State) : (begin s).stationLink = s.stationLink := rfl
@[simp] theorem begin_plantLink (s : State) : (begin s).plantLink = s.plantLink := rfl
@[simp] theorem begin_outputs (s : State) : (begin s).outputs = [] := rfl
@[simp] theorem begin_readings (s : State) : (begin s).readings = s.readings := rfl
@[simp] theorem begin_pending (s : State) : (begin s).pending = s.pending := rfl

/-! ### takeReading -/

@[simp] theorem takeReading_powered (s : State) : (takeReading s).powered = s.powered := rfl
@[simp] theorem takeReading_oscillator (s : State) : (takeReading s).oscillator = s.oscillator := rfl
@[simp] theorem takeReading_clock (s : State) : (takeReading s).clock = s.clock := rfl
@[simp] theorem takeReading_batteryFail (s : State) : (takeReading s).batteryFail = s.batteryFail := rfl
@[simp] theorem takeReading_minuteNext (s : State) : (takeReading s).minuteNext = s.minuteNext := rfl
@[simp] theorem takeReading_store (s : State) : (takeReading s).store = s.store := rfl
@[simp] theorem takeReading_journal (s : State) : (takeReading s).journal = s.journal := rfl
@[simp] theorem takeReading_orders (s : State) : (takeReading s).orders = s.orders := rfl
@[simp] theorem takeReading_batteryCleared (s : State) : (takeReading s).batteryCleared = s.batteryCleared := rfl
@[simp] theorem takeReading_mixers (s : State) : (takeReading s).mixers = s.mixers := rfl
@[simp] theorem takeReading_stations (s : State) : (takeReading s).stations = s.stations := rfl
@[simp] theorem takeReading_arbiter (s : State) : (takeReading s).arbiter = s.arbiter := rfl
@[simp] theorem takeReading_transit (s : State) : (takeReading s).transit = s.transit := rfl
@[simp] theorem takeReading_spaceList (s : State) : (takeReading s).spaceList = s.spaceList := rfl
@[simp] theorem takeReading_shuttle (s : State) : (takeReading s).shuttle = s.shuttle := rfl
@[simp] theorem takeReading_bays (s : State) : (takeReading s).bays = s.bays := rfl
@[simp] theorem takeReading_aligners (s : State) : (takeReading s).aligners = s.aligners := rfl
@[simp] theorem takeReading_stationLink (s : State) : (takeReading s).stationLink = s.stationLink := rfl
@[simp] theorem takeReading_plantLink (s : State) : (takeReading s).plantLink = s.plantLink := rfl
@[simp] theorem takeReading_outputs (s : State) : (takeReading s).outputs = s.outputs := rfl
@[simp] theorem takeReading_readings (s : State) : (takeReading s).readings = s.readings + 1 := rfl
@[simp] theorem takeReading_pending (s : State) : (takeReading s).pending = s.pending := rfl

/-! ### lineFree -/

@[simp] theorem lineFree_powered (s : State) : (lineFree s).powered = s.powered := rfl
@[simp] theorem lineFree_oscillator (s : State) : (lineFree s).oscillator = s.oscillator := rfl
@[simp] theorem lineFree_clock (s : State) : (lineFree s).clock = s.clock := rfl
@[simp] theorem lineFree_batteryFail (s : State) : (lineFree s).batteryFail = s.batteryFail := rfl
@[simp] theorem lineFree_minuteNext (s : State) : (lineFree s).minuteNext = s.minuteNext := rfl
@[simp] theorem lineFree_store (s : State) : (lineFree s).store = s.store := rfl
@[simp] theorem lineFree_journal (s : State) : (lineFree s).journal = s.journal := rfl
@[simp] theorem lineFree_orders (s : State) : (lineFree s).orders = s.orders := rfl
@[simp] theorem lineFree_batteryCleared (s : State) : (lineFree s).batteryCleared = s.batteryCleared := rfl
@[simp] theorem lineFree_mixers (s : State) : (lineFree s).mixers = s.mixers := rfl
@[simp] theorem lineFree_stations (s : State) : (lineFree s).stations = s.stations := rfl
@[simp] theorem lineFree_arbiter (s : State) : (lineFree s).arbiter = s.arbiter := rfl
@[simp] theorem lineFree_transit (s : State) : (lineFree s).transit = s.transit := rfl
@[simp] theorem lineFree_spaceList (s : State) : (lineFree s).spaceList = s.spaceList := rfl
@[simp] theorem lineFree_shuttle (s : State) : (lineFree s).shuttle = s.shuttle := rfl
@[simp] theorem lineFree_bays (s : State) : (lineFree s).bays = s.bays := rfl
@[simp] theorem lineFree_aligners (s : State) : (lineFree s).aligners = s.aligners := rfl
@[simp] theorem lineFree_stationLink (s : State) : (lineFree s).stationLink = { s.stationLink with exchange := none } := rfl
@[simp] theorem lineFree_plantLink (s : State) : (lineFree s).plantLink = s.plantLink := rfl
@[simp] theorem lineFree_outputs (s : State) : (lineFree s).outputs = s.outputs := rfl
@[simp] theorem lineFree_readings (s : State) : (lineFree s).readings = s.readings := rfl
@[simp] theorem lineFree_pending (s : State) : (lineFree s).pending = s.pending := rfl

/-! ### setReceiver -/

@[simp] theorem setReceiver_powered (r : Receiver) (s : State) : (setReceiver r s).powered = s.powered := rfl
@[simp] theorem setReceiver_oscillator (r : Receiver) (s : State) : (setReceiver r s).oscillator = s.oscillator := rfl
@[simp] theorem setReceiver_clock (r : Receiver) (s : State) : (setReceiver r s).clock = s.clock := rfl
@[simp] theorem setReceiver_batteryFail (r : Receiver) (s : State) : (setReceiver r s).batteryFail = s.batteryFail := rfl
@[simp] theorem setReceiver_minuteNext (r : Receiver) (s : State) : (setReceiver r s).minuteNext = s.minuteNext := rfl
@[simp] theorem setReceiver_store (r : Receiver) (s : State) : (setReceiver r s).store = s.store := rfl
@[simp] theorem setReceiver_journal (r : Receiver) (s : State) : (setReceiver r s).journal = s.journal := rfl
@[simp] theorem setReceiver_orders (r : Receiver) (s : State) : (setReceiver r s).orders = s.orders := rfl
@[simp] theorem setReceiver_batteryCleared (r : Receiver) (s : State) : (setReceiver r s).batteryCleared = s.batteryCleared := rfl
@[simp] theorem setReceiver_mixers (r : Receiver) (s : State) : (setReceiver r s).mixers = s.mixers := rfl
@[simp] theorem setReceiver_stations (r : Receiver) (s : State) : (setReceiver r s).stations = s.stations := rfl
@[simp] theorem setReceiver_arbiter (r : Receiver) (s : State) : (setReceiver r s).arbiter = s.arbiter := rfl
@[simp] theorem setReceiver_transit (r : Receiver) (s : State) : (setReceiver r s).transit = s.transit := rfl
@[simp] theorem setReceiver_spaceList (r : Receiver) (s : State) : (setReceiver r s).spaceList = s.spaceList := rfl
@[simp] theorem setReceiver_shuttle (r : Receiver) (s : State) : (setReceiver r s).shuttle = s.shuttle := rfl
@[simp] theorem setReceiver_bays (r : Receiver) (s : State) : (setReceiver r s).bays = s.bays := rfl
@[simp] theorem setReceiver_aligners (r : Receiver) (s : State) : (setReceiver r s).aligners = s.aligners := rfl
@[simp] theorem setReceiver_stationLink (r : Receiver) (s : State) : (setReceiver r s).stationLink = s.stationLink := rfl
@[simp] theorem setReceiver_plantLink (r : Receiver) (s : State) : (setReceiver r s).plantLink = { s.plantLink with receiver := r } := rfl
@[simp] theorem setReceiver_outputs (r : Receiver) (s : State) : (setReceiver r s).outputs = s.outputs := rfl
@[simp] theorem setReceiver_readings (r : Receiver) (s : State) : (setReceiver r s).readings = s.readings := rfl
@[simp] theorem setReceiver_pending (r : Receiver) (s : State) : (setReceiver r s).pending = s.pending := rfl

/-! ### clearOverrun -/

@[simp] theorem clearOverrun_powered (s : State) : (clearOverrun s).powered = s.powered := rfl
@[simp] theorem clearOverrun_oscillator (s : State) : (clearOverrun s).oscillator = s.oscillator := rfl
@[simp] theorem clearOverrun_clock (s : State) : (clearOverrun s).clock = s.clock := rfl
@[simp] theorem clearOverrun_batteryFail (s : State) : (clearOverrun s).batteryFail = s.batteryFail := rfl
@[simp] theorem clearOverrun_minuteNext (s : State) : (clearOverrun s).minuteNext = s.minuteNext := rfl
@[simp] theorem clearOverrun_store (s : State) : (clearOverrun s).store = s.store := rfl
@[simp] theorem clearOverrun_journal (s : State) : (clearOverrun s).journal = s.journal := rfl
@[simp] theorem clearOverrun_orders (s : State) : (clearOverrun s).orders = s.orders := rfl
@[simp] theorem clearOverrun_batteryCleared (s : State) : (clearOverrun s).batteryCleared = s.batteryCleared := rfl
@[simp] theorem clearOverrun_mixers (s : State) : (clearOverrun s).mixers = s.mixers := rfl
@[simp] theorem clearOverrun_stations (s : State) : (clearOverrun s).stations = s.stations := rfl
@[simp] theorem clearOverrun_arbiter (s : State) : (clearOverrun s).arbiter = s.arbiter := rfl
@[simp] theorem clearOverrun_transit (s : State) : (clearOverrun s).transit = s.transit := rfl
@[simp] theorem clearOverrun_spaceList (s : State) : (clearOverrun s).spaceList = s.spaceList := rfl
@[simp] theorem clearOverrun_shuttle (s : State) : (clearOverrun s).shuttle = s.shuttle := rfl
@[simp] theorem clearOverrun_bays (s : State) : (clearOverrun s).bays = s.bays := rfl
@[simp] theorem clearOverrun_aligners (s : State) : (clearOverrun s).aligners = s.aligners := rfl
@[simp] theorem clearOverrun_stationLink (s : State) : (clearOverrun s).stationLink = s.stationLink := rfl
@[simp] theorem clearOverrun_plantLink (s : State) : (clearOverrun s).plantLink = { s.plantLink with overrun := false } := rfl
@[simp] theorem clearOverrun_outputs (s : State) : (clearOverrun s).outputs = s.outputs := rfl
@[simp] theorem clearOverrun_readings (s : State) : (clearOverrun s).readings = s.readings := rfl
@[simp] theorem clearOverrun_pending (s : State) : (clearOverrun s).pending = s.pending := rfl

/-! ### What sends on the Plant Link -/

theorem beginFrame_eq (f : Frame) (s : State) :
    beginFrame f s = { s with plantLink := (beginFrame f s).plantLink, outputs := (beginFrame f s).outputs } := rfl

theorem kick_eq (s : State) : kick s = { s with plantLink := (kick s).plantLink, outputs := (kick s).outputs } := by
  unfold kick
  split
  · rfl
  · split
    · rfl
    · split
      · rfl
      · split <;> rfl

theorem queueNotice_eq (n : Notice) (s : State) : queueNotice n s = { s with plantLink := (queueNotice n s).plantLink } := by
  unfold queueNotice
  split <;> rfl

theorem raise_eq (n : Notice) (s : State) :
    raise n s = { s with plantLink := (raise n s).plantLink, outputs := (raise n s).outputs } := by
  unfold raise
  split
  · rfl
  · rw [kick_eq, queueNotice_eq]

@[simp] theorem kick_powered (s : State) : (kick s).powered = s.powered := by rw [kick_eq]
@[simp] theorem kick_oscillator (s : State) : (kick s).oscillator = s.oscillator := by rw [kick_eq]
@[simp] theorem kick_clock (s : State) : (kick s).clock = s.clock := by rw [kick_eq]
@[simp] theorem kick_batteryFail (s : State) : (kick s).batteryFail = s.batteryFail := by rw [kick_eq]
@[simp] theorem kick_minuteNext (s : State) : (kick s).minuteNext = s.minuteNext := by rw [kick_eq]
@[simp] theorem kick_store (s : State) : (kick s).store = s.store := by rw [kick_eq]
@[simp] theorem kick_journal (s : State) : (kick s).journal = s.journal := by rw [kick_eq]
@[simp] theorem kick_orders (s : State) : (kick s).orders = s.orders := by rw [kick_eq]
@[simp] theorem kick_batteryCleared (s : State) : (kick s).batteryCleared = s.batteryCleared := by rw [kick_eq]
@[simp] theorem kick_mixers (s : State) : (kick s).mixers = s.mixers := by rw [kick_eq]
@[simp] theorem kick_stations (s : State) : (kick s).stations = s.stations := by rw [kick_eq]
@[simp] theorem kick_arbiter (s : State) : (kick s).arbiter = s.arbiter := by rw [kick_eq]
@[simp] theorem kick_transit (s : State) : (kick s).transit = s.transit := by rw [kick_eq]
@[simp] theorem kick_spaceList (s : State) : (kick s).spaceList = s.spaceList := by rw [kick_eq]
@[simp] theorem kick_shuttle (s : State) : (kick s).shuttle = s.shuttle := by rw [kick_eq]
@[simp] theorem kick_bays (s : State) : (kick s).bays = s.bays := by rw [kick_eq]
@[simp] theorem kick_aligners (s : State) : (kick s).aligners = s.aligners := by rw [kick_eq]
@[simp] theorem kick_stationLink (s : State) : (kick s).stationLink = s.stationLink := by rw [kick_eq]
@[simp] theorem kick_readings (s : State) : (kick s).readings = s.readings := by rw [kick_eq]
@[simp] theorem kick_pending (s : State) : (kick s).pending = s.pending := by rw [kick_eq]

@[simp] theorem raise_powered (n : Notice) (s : State) : (raise n s).powered = s.powered := by rw [raise_eq]
@[simp] theorem raise_oscillator (n : Notice) (s : State) : (raise n s).oscillator = s.oscillator := by rw [raise_eq]
@[simp] theorem raise_clock (n : Notice) (s : State) : (raise n s).clock = s.clock := by rw [raise_eq]
@[simp] theorem raise_batteryFail (n : Notice) (s : State) : (raise n s).batteryFail = s.batteryFail := by rw [raise_eq]
@[simp] theorem raise_minuteNext (n : Notice) (s : State) : (raise n s).minuteNext = s.minuteNext := by rw [raise_eq]
@[simp] theorem raise_store (n : Notice) (s : State) : (raise n s).store = s.store := by rw [raise_eq]
@[simp] theorem raise_journal (n : Notice) (s : State) : (raise n s).journal = s.journal := by rw [raise_eq]
@[simp] theorem raise_orders (n : Notice) (s : State) : (raise n s).orders = s.orders := by rw [raise_eq]
@[simp] theorem raise_batteryCleared (n : Notice) (s : State) : (raise n s).batteryCleared = s.batteryCleared := by rw [raise_eq]
@[simp] theorem raise_mixers (n : Notice) (s : State) : (raise n s).mixers = s.mixers := by rw [raise_eq]
@[simp] theorem raise_stations (n : Notice) (s : State) : (raise n s).stations = s.stations := by rw [raise_eq]
@[simp] theorem raise_arbiter (n : Notice) (s : State) : (raise n s).arbiter = s.arbiter := by rw [raise_eq]
@[simp] theorem raise_transit (n : Notice) (s : State) : (raise n s).transit = s.transit := by rw [raise_eq]
@[simp] theorem raise_spaceList (n : Notice) (s : State) : (raise n s).spaceList = s.spaceList := by rw [raise_eq]
@[simp] theorem raise_shuttle (n : Notice) (s : State) : (raise n s).shuttle = s.shuttle := by rw [raise_eq]
@[simp] theorem raise_bays (n : Notice) (s : State) : (raise n s).bays = s.bays := by rw [raise_eq]
@[simp] theorem raise_aligners (n : Notice) (s : State) : (raise n s).aligners = s.aligners := by rw [raise_eq]
@[simp] theorem raise_stationLink (n : Notice) (s : State) : (raise n s).stationLink = s.stationLink := by rw [raise_eq]
@[simp] theorem raise_readings (n : Notice) (s : State) : (raise n s).readings = s.readings := by rw [raise_eq]
@[simp] theorem raise_pending (n : Notice) (s : State) : (raise n s).pending = s.pending := by rw [raise_eq]

/-! ### What sends on the Station Link -/

theorem sendStation_eq (r : StationRecord) (s : State) :
    sendStation r s = { s with outputs := s.outputs ++ [.station r (encodeStation r)] } := rfl

theorem foldl_sendStation_eq (l : List StationRecord) (s : State) :
    l.foldl (fun t r => sendStation r t) s =
      { s with outputs := s.outputs ++ l.map fun r => .station r (encodeStation r) } := by
  induction l generalizing s with
  | nil => simp
  | cons r rest ih =>
    rw [List.foldl_cons, ih, sendStation_eq]
    simp

/-- STATION UNBIND changes of the link only what waits for the station that it leaves. -/
theorem leaveStation_eq (b : Nat) (s : State) :
    leaveStation b s =
      { s with
        stationLink := { s.stationLink with
          waitingActuations := (s.binding b).elim s.stationLink.waitingActuations fun k =>
            s.stationLink.waitingActuations.filter fun r => !r.actuates k.address } } := by
  unfold leaveStation giveUpActuations
  cases s.binding b <;> rfl

/-- What waits goes out, in order. -/
theorem flush_eq (s : State) :
    flush s =
      { s with
        stationLink := { s.stationLink with waitingActuations := [] }
        outputs := s.outputs ++ s.stationLink.waitingActuations.map fun r => .station r (encodeStation r) } := by
  rw [flush, foldl_sendStation_eq]

theorem pollNext_form (s : State) : ∃ l o, pollNext s = { s with stationLink := l, outputs := o } := by
  unfold pollNext
  dsimp only
  split <;> exact ⟨_, _, rfl⟩

theorem probeNext_form (s : State) : ∃ l o, probeNext s = { s with stationLink := l, outputs := o } := by
  unfold probeNext
  split <;> exact ⟨_, _, rfl⟩

/-- What ends a command on the Station Link changes that link and the outputs alone. -/
theorem settle_form (s : State) : ∃ l o, settle s = { s with stationLink := l, outputs := o } := by
  unfold settle
  split
  · exact ⟨_, _, rfl⟩
  · dsimp only
    rw [flush_eq]
    split
    · obtain ⟨l, o, h⟩ := pollNext_form { s with
        stationLink := { s.stationLink with waitingActuations := [] }
        outputs := s.outputs ++ s.stationLink.waitingActuations.map fun r => .station r (encodeStation r) }
      obtain ⟨l', o', h'⟩ := probeNext_form { s with stationLink := l, outputs := o }
      rw [h]
      exact ⟨l', o', h'⟩
    · obtain ⟨l', o', h'⟩ := probeNext_form { s with
        stationLink := { s.stationLink with waitingActuations := [] }
        outputs := s.outputs ++ s.stationLink.waitingActuations.map fun r => .station r (encodeStation r) }
      exact ⟨l', o', h'⟩

theorem settle_eq (s : State) :
    settle s = { s with stationLink := (settle s).stationLink, outputs := (settle s).outputs } := by
  obtain ⟨l, o, h⟩ := settle_form s
  rw [h]

@[simp] theorem settle_powered (s : State) : (settle s).powered = s.powered := by rw [settle_eq]
@[simp] theorem settle_oscillator (s : State) : (settle s).oscillator = s.oscillator := by rw [settle_eq]
@[simp] theorem settle_clock (s : State) : (settle s).clock = s.clock := by rw [settle_eq]
@[simp] theorem settle_batteryFail (s : State) : (settle s).batteryFail = s.batteryFail := by rw [settle_eq]
@[simp] theorem settle_minuteNext (s : State) : (settle s).minuteNext = s.minuteNext := by rw [settle_eq]
@[simp] theorem settle_store (s : State) : (settle s).store = s.store := by rw [settle_eq]
@[simp] theorem settle_journal (s : State) : (settle s).journal = s.journal := by rw [settle_eq]
@[simp] theorem settle_orders (s : State) : (settle s).orders = s.orders := by rw [settle_eq]
@[simp] theorem settle_batteryCleared (s : State) : (settle s).batteryCleared = s.batteryCleared := by rw [settle_eq]
@[simp] theorem settle_mixers (s : State) : (settle s).mixers = s.mixers := by rw [settle_eq]
@[simp] theorem settle_stations (s : State) : (settle s).stations = s.stations := by rw [settle_eq]
@[simp] theorem settle_arbiter (s : State) : (settle s).arbiter = s.arbiter := by rw [settle_eq]
@[simp] theorem settle_transit (s : State) : (settle s).transit = s.transit := by rw [settle_eq]
@[simp] theorem settle_spaceList (s : State) : (settle s).spaceList = s.spaceList := by rw [settle_eq]
@[simp] theorem settle_shuttle (s : State) : (settle s).shuttle = s.shuttle := by rw [settle_eq]
@[simp] theorem settle_bays (s : State) : (settle s).bays = s.bays := by rw [settle_eq]
@[simp] theorem settle_aligners (s : State) : (settle s).aligners = s.aligners := by rw [settle_eq]
@[simp] theorem settle_plantLink (s : State) : (settle s).plantLink = s.plantLink := by rw [settle_eq]
@[simp] theorem settle_readings (s : State) : (settle s).readings = s.readings := by rw [settle_eq]
@[simp] theorem settle_pending (s : State) : (settle s).pending = s.pending := by rw [settle_eq]

/-- A line with an exchange on it carries nothing else (R120). -/
theorem settle_busy (s : State) (e : Exchange) (h : s.stationLink.exchange = some e) : settle s = s := by
  unfold settle
  rw [h]

/-! ### The Dispatcher -/

/-- Where no order waits, a scan starts nothing. -/
theorem dispatch_empty (s : State) (h : s.orders = []) : dispatch s = s := by simp [dispatch, h, scans]

/-- `dispatch_empty` for a position that may have become FREE. -/
theorem dispatchIf_empty (freed : Bool) (s : State) (h : s.orders = []) : dispatchIf freed s = s := by
  unfold dispatchIf
  split
  · exact dispatch_empty s h
  · rfl

end Sys2Proof.Machine
end

