-- ==== Sys2Proof/Laws/Kept.lean ====
section
/-! SUPPORT. What every operation of the machine keeps: the supply, the oscillator, the clock, the battery-fail indication, the waiting commands, and the invariant `Inv`. One lemma for each operation, in the form a proof applies to the operation's result. -/

namespace Sys2Proof.Machine

/-- What an operation keeps between the state before it and the state after it. -/
structure Kept (s t : State) : Prop where
  powered : t.powered = s.powered
  oscillator : t.oscillator = s.oscillator
  clock : t.clock = s.clock
  batteryFail : t.batteryFail = s.batteryFail
  pending : t.pending = s.pending
  batteryCleared : t.batteryCleared = s.batteryCleared
  inv : Inv s → Inv t

namespace Kept

theorem refl (s : State) : Kept s s := ⟨rfl, rfl, rfl, rfl, rfl, rfl, id⟩

theorem trans {s t u : State} (h : Kept s t) (k : Kept t u) : Kept s u :=
  ⟨k.powered.trans h.powered, k.oscillator.trans h.oscillator, k.clock.trans h.clock, k.batteryFail.trans h.batteryFail,
    k.pending.trans h.pending, k.batteryCleared.trans h.batteryCleared, fun i => k.inv (h.inv i)⟩

/-- An update that leaves the queues, the stations, the entries and the journal. -/
theorem same {s t u : State} (h : Kept s t) (h1 : u.powered = t.powered) (h2 : u.oscillator = t.oscillator)
    (h3 : u.clock = t.clock) (h4 : u.batteryFail = t.batteryFail) (h5 : u.pending = t.pending) (h6 : u.orders = t.orders)
    (h7 : u.plantLink.buffer = t.plantLink.buffer) (h8 : u.plantLink.notices = t.plantLink.notices)
    (h9 : u.store.entries = t.store.entries) (h10 : u.journal = t.journal)
    (h11 : u.batteryCleared = t.batteryCleared) (h12 : u.transit = t.transit) (h13 : u.stations = t.stations) :
    Kept s u := by
  refine h.trans ⟨h1, h2, h3, h4, h5, h11, ?_⟩
  simp only [Inv, PlacesKept, claims, State.entry, State.station, h3, h6, h7, h8, h9, h10, h12, h13]
  exact id

/-- A list of operations. -/
theorem foldl {α : Type} {s t : State} (l : List α) (f : State → α → State) (hf : ∀ x u, Kept s u → Kept s (f u x))
    (h : Kept s t) : Kept s (l.foldl f t) := by
  induction l generalizing t with
  | nil => exact h
  | cons x l ih => exact ih (hf x t h)

/-- A shorter Order Queue. -/
theorem orders {s t : State} (l : List Order) (h : Kept s t) (hl : l.length ≤ t.orders.length) :
    Kept s { t with orders := l } :=
  h.trans ⟨rfl, rfl, rfl, rfl, rfl, rfl, fun i => ⟨Nat.le_trans hl i.1, i.2⟩⟩

/-- A Transit Queue that is no longer. -/
theorem transit {s t : State} (l : List TransitEntry) (h : Kept s t) (hl : l.length ≤ t.transit.length) :
    Kept s { t with transit := l } :=
  h.trans ⟨rfl, rfl, rfl, rfl, rfl, rfl, fun i =>
    ⟨i.1, i.2.1, i.2.2.1, i.2.2.2.1, i.2.2.2.2.1, i.2.2.2.2.2.1,
      Nat.le_trans (Nat.add_le_add_right hl _) i.2.2.2.2.2.2.1, i.2.2.2.2.2.2.2⟩⟩

end Kept

/-! ### The store -/

/-- What a write would put back is in range when the record is. -/
theorem read_inRange (t : Store) (d : RecordId) (h : ∀ p, (at1 t.entries p .nonexistent).inRange = true) :
    (t.read d).inRange = true := by
  cases d <;> first | rfl | exact h _

/-- A write keeps everything when an entry it writes is in range. -/
theorem Kept.write {s t : State} (r : Retained) (h : Kept s t) (hr : Inv t → r.inRange = true) :
    Kept s (Machine.write r t) := by
  refine h.trans ⟨rfl, rfl, rfl, rfl, rfl, rfl, fun i => ⟨i.1, i.2.1, i.2.2.1, i.2.2.2.1, ?_, ?_, i.2.2.2.2.2.2⟩⟩
  · intro p
    have hp := i.2.2.2.2.1 p
    have hr := hr i
    cases r with
    | entry q e =>
      by_cases hq : p = q
      · subst hq
        by_cases hb : 1 ≤ p ∧ p ≤ 288
        · have : (Machine.write (.entry p e) t).entry p = e := by
            show at1 (put1 t.store.entries p e) p .nonexistent = e
            exact at1_put1_same _ _ _ _ hb
          rw [this]; exact hr
        · have : (Machine.write (.entry p e) t).entry p = t.entry p := by
            show at1 (put1 t.store.entries p e) p .nonexistent = at1 t.store.entries p .nonexistent
            cases p with
            | zero => rfl
            | succ k => simp [at1, put1, show ¬ k < 288 by omega]
          rw [this]; exact hp
      · have : (Machine.write (.entry q e) t).entry p = t.entry p := at1_put1_other _ _ _ _ _ hq
        rw [this]; exact hp
    | _ => exact hp
  · intro u hu
    rcases List.mem_cons.mp hu with rfl | hu
    · exact read_inRange _ _ i.2.2.2.2.1
    · exact i.2.2.2.2.2.1 u hu

/-- A record that is no entry. -/
def Retained.plain : Retained → Bool
  | .entry _ _ => false
  | _ => true

theorem Kept.writePlain {s t : State} {r : Retained} (h : Kept s t) (hr : r.plain = true) : Kept s (Machine.write r t) := by
  refine h.write r fun _ => ?_
  cases r <;> first | rfl | cases hr

/-- An entry that holds no cast. -/
theorem Kept.writeStatus {s t : State} {p : Nat} {e : Entry} (h : Kept s t) (he : e.cast? = none) :
    Kept s (writeEntry p e t) :=
  h.write _ fun _ => by show e.inRange = true; rw [Entry.inRange, he]; rfl

/-- A cast in an entry of a state with the invariant is in range. -/
theorem castAt_inRange {s : State} {p : Nat} {c : CastPart} (i : Inv s) (h : s.castAt p = some c) : c.inRange = true := by
  have := i.2.2.2.2.1 p
  simp only [State.castAt] at h
  simpa [Entry.inRange, h] using this

theorem Kept.writeCast {s t : State} {p : Nat} {c : CastPart} (h : Kept s t) (hc : Inv t → c.inRange = true) :
    Kept s (writeEntry p (.occupied c) t) :=
  h.write _ fun i => by simpa [Retained.inRange, Entry.inRange, Entry.cast?] using hc i

/-! ### Figures of a cast part -/

/-- The four figures. -/
def CastPart.figures (c : CastPart) : Nat × Nat × Nat × Nat := (c.maturity, c.gap, c.dry, c.substituted)

theorem inRange_of_figures {c d : CastPart} (h : c.figures = d.figures) (hd : d.inRange = true) : c.inRange = true := by
  simp only [CastPart.figures, Prod.mk.injEq] at h
  simpa only [CastPart.inRange, h] using hd

theorem evaluateCast_figures (k : Option ClassRecord) (clock : Nat) (c : CastPart) :
    (evaluateCast k clock c).figures = c.figures := by
  unfold evaluateCast evaluatePlaced evaluateReleasable
  dsimp only
  repeat' split
  all_goals rfl

theorem creditCast_inRange (k : Option ClassRecord) (i : Interval) (c : CastPart) (h : c.inRange = true) :
    (creditCast k i c).inRange = true := by
  have hs : countSubstitute i.kind c.substituted ≤ Config.substitutedMax := by
    simp only [CastPart.inRange, Bool.and_eq_true, decide_eq_true_eq] at h
    unfold countSubstitute
    split
    · exact h.2
    · exact Nat.min_le_left _ _
    · exact Nat.min_le_left _ _
  simp only [CastPart.inRange, Bool.and_eq_true, decide_eq_true_eq] at h ⊢
  obtain ⟨⟨⟨h1, h2⟩, h3⟩, _⟩ := h
  unfold creditCast
  dsimp only
  split
  · exact ⟨⟨⟨h1, Nat.min_le_left _ _⟩, h3⟩, hs⟩
  · exact ⟨⟨⟨h1, Nat.min_le_left _ _⟩, h3⟩, hs⟩
  · refine ⟨⟨⟨Nat.min_le_left _ _, h2⟩, ?_⟩, hs⟩
    dsimp only
    split
    · exact Nat.min_le_left _ _
    · exact h3

theorem addGap_inRange (n : Nat) (c : CastPart) (h : c.inRange = true) : (c.addGap n).inRange = true := by
  simp only [CastPart.inRange, Bool.and_eq_true, decide_eq_true_eq] at h ⊢
  exact ⟨⟨⟨h.1.1.1, Nat.min_le_left _ _⟩, h.1.2⟩, h.2⟩

/-! ### Named updates, the store, the links -/

theorem withSeq_kept (m : Mixer) (f : Sequencer → Sequencer) {s t : State} (h : Kept s t) : Kept s (withSeq m f t) :=
  h.same rfl rfl rfl rfl rfl rfl rfl rfl rfl rfl rfl rfl rfl

/-- A station that keeps its claim and begins nothing that needs one. -/
theorem PourStation.placed_of {x y : PourStation} (h : x.placed = true) (hc : y.claim = x.claim) (hs : y.step ≠ .read)
    (hm : y.moldCall = x.moldCall ∨ y.moldCall = none) (hf : y.fill = x.fill ∨ y.fill = none) : y.placed = true := by
  simp only [PourStation.placed, Bool.or_eq_true, Bool.and_eq_true, decide_eq_true_eq, hc] at h ⊢
  rcases h with h | ⟨⟨_, h2⟩, h3⟩
  · exact .inl h
  · refine .inr ⟨⟨hs, ?_⟩, ?_⟩
    · rcases hm with hm | hm <;> simp_all
    · rcases hf with hf | hf <;> simp_all

/-- A station with a claim is placed. -/
theorem PourStation.placed_claim {x : PourStation} (h : x.claim = true) : x.placed = true := by simp [PourStation.placed, h]

/-- A mold that is read, called or filled has its claim. -/
theorem PourStation.claim_of {x : PourStation} (h : x.placed = true)
    (hb : x.step = .read ∨ x.moldCall.isSome = true ∨ x.fill.isSome = true) : x.claim = true := by
  simp only [PourStation.placed, Bool.or_eq_true, Bool.and_eq_true, decide_eq_true_eq] at h
  rcases h with h | ⟨⟨h1, h2⟩, h3⟩
  · exact h
  · rcases hb with hb | hb | hb
    · exact absurd hb h1
    · simp_all
    · simp_all

/-- The claim of a station where the invariant holds. -/
theorem claim_of_inv {t : State} (m : Mixer) (i : Inv t)
    (hb : (t.station m).step = .read ∨ (t.station m).moldCall.isSome = true ∨ (t.station m).fill.isSome = true) :
    (t.station m).claim = true := PourStation.claim_of (i.2.2.2.2.2.2.2 m) hb

/-- What the claims come to when one station's claim changes. -/
theorem claims_withStation (m : Mixer) (f : PourStation → PourStation) (s : State) :
    claims (withStation m f s) + (s.station m).claim.toNat = claims s + (f (s.station m)).claim.toNat := by
  cases m <;> simp only [claims, withStation, PerMixer.put, State.station, PerMixer.get] <;> omega

/-- A station that still has its claim where it needs one, among no more entries and claims than there are places. -/
theorem withStation_places {m : Mixer} {f : PourStation → PourStation} {s : State} (i : PlacesKept s)
    (h1 : (f (s.station m)).placed = true)
    (h2 : (f (s.station m)).claim = true → (s.station m).claim = true ∨ placeFree s = true) :
    PlacesKept (withStation m f s) := by
  refine ⟨?_, fun k => ?_⟩
  · have hc := claims_withStation m f s
    have hl := i.1
    have hb := Bool.toNat_le (f (s.station m)).claim
    show s.transit.length + claims (withStation m f s) ≤ _
    cases hf : (f (s.station m)).claim with
    | false => rw [hf, Bool.toNat_false] at hc; omega
    | true =>
      rcases h2 hf with h | h
      · rw [hf, h] at hc; omega
      · have hp : s.transit.length + claims s < Config.transitPlaces := by simpa [placeFree] using h
        omega
  · by_cases hk : k = m
    · subst hk; rw [withStation_station]; exact h1
    · rw [withStation_station_other f s hk]; exact i.2 k

/-- A change of one station, where it still has its claim if it needs one, and takes none, or a free place. -/
theorem Kept.station {s t : State} (m : Mixer) (f : PourStation → PourStation) (h : Kept s t)
    (h1 : Inv s → (f (t.station m)).placed = true)
    (h2 : (f (t.station m)).claim = true → (t.station m).claim = true ∨ placeFree t = true) :
    Kept s (withStation m f t) :=
  ⟨h.powered, h.oscillator, h.clock, h.batteryFail, h.pending, h.batteryCleared, fun i =>
    have j := h.inv i
    ⟨j.1, j.2.1, j.2.2.1, j.2.2.2.1, j.2.2.2.2.1, j.2.2.2.2.2.1, withStation_places j.2.2.2.2.2.2 (h1 i) h2⟩⟩

/-- A change of one station that takes no claim, and keeps the one it has or begins nothing that needs one. -/
theorem withStation_kept (m : Mixer) (f : PourStation → PourStation) {s t : State} (h : Kept s t)
    (h1 : ∀ x, x.placed = true → (f x).placed = true) (h2 : ∀ x, (f x).claim = true → x.claim = true) :
    Kept s (withStation m f t) :=
  h.station m f (fun i => h1 _ ((h.inv i).2.2.2.2.2.2.2 m)) fun hf => .inl (h2 _ hf)

theorem withBay_kept (b : Nat) (f : Bay → Bay) {s t : State} (h : Kept s t) : Kept s (withBay b f t) :=
  h.same rfl rfl rfl rfl rfl rfl rfl rfl rfl rfl rfl rfl rfl

theorem withAligner_kept (b : Nat) (f : Aligner → Aligner) {s t : State} (h : Kept s t) : Kept s (withAligner b f t) :=
  h.same rfl rfl rfl rfl rfl rfl rfl rfl rfl rfl rfl rfl rfl

theorem emit_kept (o : Output) {s t : State} (h : Kept s t) : Kept s (emit o t) :=
  h.same rfl rfl rfl rfl rfl rfl rfl rfl rfl rfl rfl rfl rfl

/-- The start of a command keeps the invariant. -/
theorem begin_inv {s : State} (i : Inv s) : Inv (begin s) :=
  ⟨i.1, i.2.1, i.2.2.1, i.2.2.2.1, i.2.2.2.2.1, (fun _ hu => by cases hu), i.2.2.2.2.2.2⟩

theorem writeBatch_kept (slot : Nat) (r : Option BatchRecord) {s t : State} (h : Kept s t) : Kept s (writeBatch slot r t) :=
  h.writePlain rfl

theorem writeSettings_kept (b : Nat) (r : BaySettings) {s t : State} (h : Kept s t) : Kept s (writeSettings b r t) :=
  h.writePlain rfl

theorem writeMarker_kept (m : Mixer) (r : Option Marker) {s t : State} (h : Kept s t) : Kept s (writeMarker m r t) :=
  h.writePlain rfl

theorem updateBatch_kept (slot : Nat) (f : BatchRecord → BatchRecord) {s t : State} (h : Kept s t) :
    Kept s (updateBatch slot f t) := by
  unfold updateBatch
  split
  · exact h
  · exact writeBatch_kept _ _ h

/-- A notice queue that is not longer than it may be. -/
theorem Kept.notices {s t : State} (p : PlantLink) (h : Kept s t) (hb : p.buffer = t.plantLink.buffer)
    (hn : t.plantLink.notices.length ≤ Config.noticeQueueSize → p.notices.length ≤ Config.noticeQueueSize) :
    Kept s { t with plantLink := p } :=
  h.trans ⟨rfl, rfl, rfl, rfl, rfl, rfl, fun i => ⟨i.1, by simpa only [hb] using i.2.1, hn i.2.2.1, i.2.2.2⟩⟩

theorem beginFrame_kept (f : Frame) {s t : State} (h : Kept s t) : Kept s (beginFrame f t) :=
  h.same rfl rfl rfl rfl rfl rfl rfl rfl rfl rfl rfl rfl rfl

theorem kick_kept {s t : State} (h : Kept s t) : Kept s (kick t) := by
  unfold kick
  split
  · exact h
  · split
    · exact beginFrame_kept _ (h.same rfl rfl rfl rfl rfl rfl rfl rfl rfl rfl rfl rfl rfl)
    · split
      · exact h
      · split
        · exact h
        · rename_i hn
          refine beginFrame_kept _ (h.notices _ rfl fun hl => ?_)
          rw [hn] at hl
          exact Nat.le_of_succ_le hl

theorem queueNotice_kept (n : Notice) {s t : State} (h : Kept s t) : Kept s (queueNotice n t) := by
  unfold queueNotice
  split
  · rename_i hl
    exact h.notices _ rfl fun _ => by simpa using Nat.succ_le_of_lt hl
  · exact h.same rfl rfl rfl rfl rfl rfl rfl rfl rfl rfl rfl rfl rfl

theorem raise_kept (n : Notice) {s t : State} (h : Kept s t) : Kept s (raise n t) := by
  unfold raise
  split
  · exact h.same rfl rfl rfl rfl rfl rfl rfl rfl rfl rfl rfl rfl rfl
  · exact kick_kept (queueNotice_kept n h)

theorem actuate_kept (b : Nat) (a : Action) {s t : State} (h : Kept s t) : Kept s (actuate b a t) := by
  unfold actuate
  split
  · exact h
  · exact h
  · exact h.same rfl rfl rfl rfl rfl rfl rfl rfl rfl rfl rfl rfl rfl

theorem setConditioning_kept (b : Nat) (on : Bool) {s t : State} (h : Kept s t) : Kept s (setConditioning b on t) := by
  unfold setConditioning
  split
  · exact h
  · exact withBay_kept _ _ (actuate_kept _ _ h)

/-! ### The Cure Table -/

theorem putCast_kept (p : Nat) (new : CastPart) {s t : State} (h : Kept s t) (hc : Inv t → new.inRange = true) :
    Kept s (putCast p new t) := by
  unfold putCast
  split
  · split
    · exact h
    · exact h.writeCast hc
  · exact h

/-- A change of a cast part that leaves its figures. -/
theorem updateCast_kept (p : Nat) (f : CastPart → CastPart) {s t : State} (h : Kept s t)
    (hf : ∀ c, c.inRange = true → (f c).inRange = true) : Kept s (updateCast p f t) := by
  unfold updateCast
  split
  · rename_i c hc
    exact putCast_kept p _ h fun i => hf c (castAt_inRange i hc)
  · exact h

theorem evaluateAt_kept (p : Nat) {s t : State} (h : Kept s t) : Kept s (evaluateAt p t) := by
  unfold evaluateAt
  split
  · exact h
  · rename_i c hc
    have hk : Kept s (putCast p (evaluateCast (t.cls c.cls) t.clock c) t) :=
      putCast_kept p _ h fun i => inRange_of_figures (evaluateCast_figures _ _ c) (castAt_inRange i hc)
    dsimp only
    split
    · exact hk
    · exact raise_kept _ hk

theorem creditAt_kept (i : Interval) (p : Nat) {s t : State} (h : Kept s t) : Kept s (creditAt i p t) := by
  unfold creditAt
  split
  · exact h
  · rename_i c hc
    split
    · exact evaluateAt_kept p (putCast_kept p _ h fun j => creditCast_inRange _ i c (castAt_inRange j hc))
    · exact h

theorem creditInterval_kept (i : Interval) {s t : State} (h : Kept s t) : Kept s (creditInterval i t) :=
  Kept.foldl _ _ (fun p _ hu => creditAt_kept i p hu) h

theorem minuteCast_inRange (a : AlignerState) (c : CastPart) (h : c.inRange = true) : (minuteCast a c).inRange = true := by
  unfold minuteCast
  split
  · exact h
  · exact addGap_inRange _ c h
  · split
    · exact addGap_inRange _ c h
    · exact h

theorem minuteAt_kept (p : Nat) {s t : State} (h : Kept s t) : Kept s (minuteAt p t) :=
  evaluateAt_kept p (updateCast_kept p _ h fun c hc => minuteCast_inRange _ c hc)

theorem minuteExpiry_kept {s t : State} (h : Kept s t) : Kept s (minuteExpiry t) :=
  Kept.writePlain (Kept.foldl _ _ (fun p _ hu => minuteAt_kept p hu) (h.same rfl rfl rfl rfl rfl rfl rfl rfl rfl rfl rfl rfl rfl)) rfl

theorem minuteDue_kept {s t : State} (hk : Kept s t) : Kept s (minuteDue t) := by
  unfold minuteDue
  repeat' first
    | with_reducible assumption | with_reducible refine minuteExpiry_kept ?_ | split

theorem placeCast_kept (p : Nat) {s t : State} (h : Kept s t) : Kept s (placeCast p t) :=
  updateCast_kept p _ h fun _ hc => hc

/-! ### Sealing (Sealing.lean) -/

theorem setBayState_kept (b : Nat) (st : BayState) {s t : State} (hk : Kept s t) : Kept s (setBayState b st t) := by
  unfold setBayState
  repeat' first
    | with_reducible assumption | with_reducible refine writeSettings_kept _ _ ?_

theorem clearStep_kept (b : Nat) {s t : State} (hk : Kept s t) : Kept s (clearStep b t) := by
  unfold clearStep
  repeat' first
    | with_reducible assumption | with_reducible refine withBay_kept _ _ ?_

theorem takeStep_kept (b : Nat) (st : SeqStep) (seconds : Nat) {s t : State} (hk : Kept s t) : Kept s (takeStep b st seconds t) := by
  unfold takeStep
  repeat' first
    | with_reducible assumption | with_reducible refine withBay_kept _ _ ?_

theorem enterCondition_kept (b : Nat) {s t : State} (hk : Kept s t) : Kept s (enterCondition b t) := by
  unfold enterCondition
  try dsimp only
  repeat' first
    | with_reducible assumption | with_reducible refine setConditioning_kept _ _ ?_
    | with_reducible refine withBay_kept _ _ ?_ | with_reducible refine takeStep_kept _ _ _ ?_ | split

theorem enterLock_kept (b : Nat) {s t : State} (hk : Kept s t) : Kept s (enterLock b t) := by
  unfold enterLock
  try dsimp only
  repeat' first
    | with_reducible assumption | with_reducible refine takeStep_kept _ _ _ ?_
    | with_reducible refine actuate_kept _ _ ?_ | with_reducible refine enterCondition_kept _ ?_ | split

theorem enterSealing_kept (b : Nat) {s t : State} (hk : Kept s t) : Kept s (enterSealing b t) := by
  unfold enterSealing
  try dsimp only
  repeat' first
    | with_reducible assumption | with_reducible refine takeStep_kept _ _ _ ?_
    | with_reducible refine actuate_kept _ _ ?_ | with_reducible refine setBayState_kept _ _ ?_
    | with_reducible refine enterLock_kept _ ?_ | split

theorem sealDone_kept (b : Nat) (slow : Bool) {s t : State} (hk : Kept s t) : Kept s (sealDone b slow t) := by
  unfold sealDone
  repeat' first
    | with_reducible assumption | with_reducible refine raise_kept _ ?_
    | with_reducible refine setBayState_kept _ _ ?_ | with_reducible refine clearStep_kept _ ?_

theorem sealRequest_kept (b : Nat) {s t : State} (hk : Kept s t) : Kept s (sealRequest b t) := by
  unfold sealRequest
  repeat' first
    | with_reducible assumption | with_reducible refine setBayState_kept _ _ ?_
    | with_reducible refine enterSealing_kept _ ?_ | split

theorem autoSealTest_kept (b : Nat) {s t : State} (hk : Kept s t) : Kept s (autoSealTest b t) := by
  unfold autoSealTest
  repeat' first
    | with_reducible assumption | with_reducible refine sealRequest_kept _ ?_ | split

theorem enterFilling_kept (b : Nat) {s t : State} (hk : Kept s t) : Kept s (enterFilling b t) := by
  unfold enterFilling
  repeat' first
    | with_reducible assumption | with_reducible refine dispatch_kept ?_ | with_reducible refine actuate_kept _ _ ?_
    | with_reducible refine setBayState_kept _ _ ?_

/-! ### Batches and deliveries (Batch.lean) -/

theorem updateOwnBatch_kept (m : Mixer) (f : BatchRecord → BatchRecord) {s t : State} (hk : Kept s t) : Kept s (updateOwnBatch m f t) := by
  unfold updateOwnBatch
  repeat' first
    | with_reducible assumption | with_reducible refine updateBatch_kept _ _ ?_ | split

theorem writeActual_kept (m : Mixer) (c : Component) (v : Nat) {s t : State} (hk : Kept s t) : Kept s (writeActual m c v t) := by
  unfold writeActual
  repeat' first
    | with_reducible assumption | with_reducible refine updateOwnBatch_kept _ _ ?_

theorem setDrive_kept (m : Mixer) (d : Drive) {s t : State} (hk : Kept s t) : Kept s (setDrive m d t) := by
  unfold setDrive
  repeat' first
    | with_reducible assumption | with_reducible refine withSeq_kept _ _ ?_ | with_reducible refine emit_kept _ ?_
    | split

theorem deliver_kept (m : Mixer) (ch : Channel) (amount : Nat) {s t : State} (hk : Kept s t) : Kept s (deliver m ch amount t) := by
  unfold deliver
  repeat' first
    | with_reducible assumption | with_reducible refine withSeq_kept _ _ ?_ | with_reducible refine emit_kept _ ?_

theorem markStage_kept (m : Mixer) (st : Stage) {s t : State} (hk : Kept s t) : Kept s (markStage m st t) := by
  unfold markStage
  repeat' first
    | with_reducible assumption | with_reducible refine writeMarker_kept _ _ ?_ | split

theorem takeState_kept (m : Mixer) (st : MixerState) (stage : Option Stage) {s t : State} (hk : Kept s t) : Kept s (takeState m st stage t) := by
  unfold takeState
  repeat' first
    | with_reducible assumption | with_reducible refine withSeq_kept _ _ ?_

theorem beginComponent_kept (m : Mixer) (c : Component) {s t : State} (hk : Kept s t) : Kept s (beginComponent m c t) := by
  unfold beginComponent
  repeat' first
    | with_reducible assumption | with_reducible refine withSeq_kept _ _ ?_

theorem enterAsh_kept (m : Mixer) {s t : State} (hk : Kept s t) : Kept s (enterAsh m t) := by
  unfold enterAsh
  repeat' first
    | with_reducible assumption | with_reducible refine deliver_kept _ _ _ ?_
    | with_reducible refine setDrive_kept _ _ ?_ | with_reducible refine beginComponent_kept _ _ ?_
    | with_reducible refine markStage_kept _ _ ?_ | with_reducible refine takeState_kept _ _ _ ?_

theorem giveBatch_kept (m : Mixer) (slot id : Nat) {s t : State} (hk : Kept s t) : Kept s (giveBatch m slot id t) := by
  unfold giveBatch
  repeat' first
    | with_reducible assumption | with_reducible refine enterAsh_kept _ ?_ | with_reducible refine withSeq_kept _ _ ?_

/-! ### The Dispatcher (Dispatcher.lean) -/

theorem bayBooked_kept (b : Nat) {s t : State} (hk : Kept s t) : Kept s (bayBooked b t) := by
  unfold bayBooked
  repeat' first
    | with_reducible assumption | with_reducible refine autoSealTest_kept _ ?_
    | with_reducible refine enterFilling_kept _ ?_ | split

theorem startOrder_kept (o : Order) (m : Mixer) (slot : Nat) (ps : List Nat) {s t : State} (hk : Kept s t) :
    Kept s (startOrder o m slot ps t) := by
  unfold startOrder
  refine raise_kept _ (giveBatch_kept _ _ _ (Kept.foldl _ _ (fun b _ hu => bayBooked_kept b hu)
    (Kept.foldl _ _ (fun p _ hu => Kept.writeStatus hu rfl) (writeBatch_kept _ _ (Kept.writePlain ?_ rfl)))))
  exact hk.orders _ (List.length_filter_le _ _)

theorem scans_kept (n : Nat) {s t : State} (hk : Kept s t) : Kept s (scans n t) := by
  induction n generalizing t with
  | zero => exact hk
  | succ n ih =>
    unfold scans
    split
    · exact hk
    · exact ih (startOrder_kept _ _ _ _ hk)

theorem dispatch_kept {s t : State} (hk : Kept s t) : Kept s (dispatch t) := scans_kept _ hk

theorem dispatchIf_kept (freed : Bool) {s t : State} (hk : Kept s t) : Kept s (dispatchIf freed t) := by
  unfold dispatchIf
  split
  · exact dispatch_kept hk
  · exact hk

/-! ### Bays (Bays.lean) -/

theorem enterEmpty_kept (b : Nat) {s t : State} (hk : Kept s t) : Kept s (enterEmpty b t) := by
  unfold enterEmpty
  repeat' first
    | with_reducible assumption | with_reducible refine dispatch_kept ?_ | with_reducible refine raise_kept _ ?_
    | with_reducible refine actuate_kept _ _ ?_ | with_reducible refine setBayState_kept _ _ ?_

theorem emptyTest_kept (b : Nat) {s t : State} (hk : Kept s t) : Kept s (emptyTest b t) := by
  unfold emptyTest
  repeat' first
    | with_reducible assumption | with_reducible refine enterEmpty_kept _ ?_ | split

theorem sealPendingTest_kept (b : Nat) {s t : State} (hk : Kept s t) : Kept s (sealPendingTest b t) := by
  unfold sealPendingTest
  repeat' first
    | with_reducible assumption | with_reducible refine enterSealing_kept _ ?_
    | with_reducible refine enterEmpty_kept _ ?_ | split

theorem bayArrival_kept (b : Nat) {s t : State} (hk : Kept s t) : Kept s (bayArrival b t) := by
  unfold bayArrival
  repeat' first
    | with_reducible assumption | with_reducible refine dispatch_kept ?_ | with_reducible refine autoSealTest_kept _ ?_
    | with_reducible refine enterFilling_kept _ ?_ | split

theorem bayPlaced_kept (b : Nat) {s t : State} (hk : Kept s t) : Kept s (bayPlaced b t) := by
  unfold bayPlaced
  repeat' first
    | with_reducible assumption | with_reducible refine sealPendingTest_kept _ ?_

theorem bayLost_kept (b : Nat) {s t : State} (hk : Kept s t) : Kept s (bayLost b t) := by
  unfold bayLost
  repeat' first
    | with_reducible assumption | with_reducible refine sealPendingTest_kept _ ?_
    | with_reducible refine emptyTest_kept _ ?_

theorem sealFail_kept (b : Nat) (st : SeqStep) {s t : State} (hk : Kept s t) : Kept s (sealFail b st t) := by
  unfold sealFail
  try dsimp only
  repeat' first
    | with_reducible assumption | with_reducible refine setConditioning_kept _ _ ?_
    | with_reducible refine actuate_kept _ _ ?_ | with_reducible refine clearStep_kept _ ?_
    | with_reducible refine dispatch_kept ?_ | with_reducible refine raise_kept _ ?_
    | with_reducible refine setBayState_kept _ _ ?_ | with_reducible refine autoSealTest_kept _ ?_
    | with_reducible refine emptyTest_kept _ ?_ | with_reducible refine dispatch_kept ?_ | split

theorem enterUnloading_kept (b : Nat) {s t : State} (hk : Kept s t) : Kept s (enterUnloading b t) := by
  unfold enterUnloading
  repeat' first
    | with_reducible assumption | with_reducible refine emptyTest_kept _ ?_ | with_reducible refine raise_kept _ ?_
    | with_reducible refine setBayState_kept _ _ ?_ | with_reducible refine clearStep_kept _ ?_

theorem enterOpen_kept (b : Nat) {s t : State} (hk : Kept s t) : Kept s (enterOpen b t) := by
  unfold enterOpen
  try dsimp only
  repeat' first
    | with_reducible assumption | with_reducible refine takeStep_kept _ _ _ ?_
    | with_reducible refine actuate_kept _ _ ?_ | with_reducible refine enterUnloading_kept _ ?_ | split

theorem enterUnlock_kept (b : Nat) {s t : State} (hk : Kept s t) : Kept s (enterUnlock b t) := by
  unfold enterUnlock
  try dsimp only
  repeat' first
    | with_reducible assumption | with_reducible refine takeStep_kept _ _ _ ?_
    | with_reducible refine actuate_kept _ _ ?_ | with_reducible refine enterOpen_kept _ ?_ | split

theorem enterCool_kept (b : Nat) {s t : State} (hk : Kept s t) : Kept s (enterCool b t) := by
  unfold enterCool
  try dsimp only
  repeat' first
    | with_reducible assumption | with_reducible refine takeStep_kept _ _ _ ?_
    | with_reducible refine setConditioning_kept _ _ ?_ | with_reducible refine setBayState_kept _ _ ?_
    | with_reducible refine enterUnlock_kept _ ?_ | split

theorem unsealFail_kept (b : Nat) (st : SeqStep) {s t : State} (hk : Kept s t) : Kept s (unsealFail b st t) := by
  unfold unsealFail
  try dsimp only
  repeat' first
    | with_reducible assumption | with_reducible refine raise_kept _ ?_
    | with_reducible refine setBayState_kept _ _ ?_ | with_reducible refine clearStep_kept _ ?_

theorem breachAt_kept (p : Nat) {s t : State} (hk : Kept s t) : Kept s (breachAt p t) := by
  unfold breachAt
  repeat' first
    | with_reducible assumption | with_reducible refine updateCast_kept _ _ ?_ ?_ | exact fun _ hc => hc | split

theorem breach_kept (b : Nat) {s t : State} (hk : Kept s t) : Kept s (breach b t) := by
  unfold breach
  try dsimp only
  repeat' first
    | with_reducible assumption | with_reducible refine Kept.foldl _ _ (fun _ _ _ => ?_) ?_
    | with_reducible refine setConditioning_kept _ _ ?_ | with_reducible refine setBayState_kept _ _ ?_
    | with_reducible refine clearStep_kept _ ?_ | with_reducible refine raise_kept _ ?_
    | with_reducible refine breachAt_kept _ ?_ | split

theorem buttonPress_kept (b : Nat) {s t : State} (hk : Kept s t) : Kept s (buttonPress b t) := by
  unfold buttonPress
  repeat' first
    | with_reducible assumption | with_reducible refine sealRequest_kept _ ?_ | with_reducible refine raise_kept _ ?_
    | split

theorem standing_kept (b : Nat) {s t : State} (hk : Kept s t) : Kept s (standing b t) := by
  unfold standing
  try dsimp only
  repeat' first
    | with_reducible assumption | with_reducible refine actuate_kept _ _ ?_
    | with_reducible refine setConditioning_kept _ _ ?_ | split

theorem existAt_kept (p : Nat) {s t : State} (hk : Kept s t) : Kept s (existAt p t) := by
  unfold existAt
  repeat' first
    | with_reducible assumption | with_reducible refine Kept.writeStatus ?_ rfl | split

theorem leaveAbsent_kept (b : Nat) {s t : State} (hk : Kept s t) : Kept s (leaveAbsent b t) := by
  unfold leaveAbsent
  try dsimp only
  repeat' first
    | with_reducible assumption | with_reducible refine Kept.foldl _ _ (fun _ _ _ => ?_) ?_
    | with_reducible refine writeSettings_kept _ _ ?_ | with_reducible refine existAt_kept _ ?_
    | with_reducible refine withBay_kept _ _ ?_ | with_reducible refine raise_kept _ ?_
    | with_reducible refine setBayState_kept _ _ ?_ | with_reducible refine dispatch_kept ?_ | split

theorem baySeal_kept (b : Nat) {s t : State} (hk : Kept s t) : Kept s (baySeal b t).1 := by
  unfold baySeal
  try dsimp only
  repeat' first
    | with_reducible assumption | with_reducible refine sealRequest_kept _ ?_ | split

theorem bayUnseal_kept (b : Nat) {s t : State} (hk : Kept s t) : Kept s (bayUnseal b t).1 := by
  unfold bayUnseal
  try dsimp only
  repeat' first
    | with_reducible assumption | with_reducible refine enterCool_kept _ ?_
    | with_reducible refine enterUnlock_kept _ ?_ | with_reducible refine setBayState_kept _ _ ?_ | split

theorem geometryAt_kept (exist : List Nat) (p : Nat) {s t : State} (hk : Kept s t) : Kept s (geometryAt exist p t) := by
  unfold geometryAt
  repeat' first
    | with_reducible assumption | with_reducible refine existAt_kept _ ?_
    | with_reducible refine Kept.writeStatus ?_ rfl | split

theorem restartLate_kept (b : Nat) {s t : State} (hk : Kept s t) : Kept s (restartLate b t) := by
  unfold restartLate
  try dsimp only
  repeat' first
    | with_reducible assumption | with_reducible refine withAligner_kept _ _ ?_

theorem baySet_kept (r : BayRequest) {s t : State} (hk : Kept s t) : Kept s (baySet r t).1 := by
  unfold baySet
  try dsimp only
  repeat' first
    | with_reducible assumption | with_reducible refine dispatchIf_kept _ ?_ | with_reducible refine Kept.foldl _ _ (fun _ _ _ => ?_) ?_
    | with_reducible refine writeSettings_kept _ _ ?_ | with_reducible refine geometryAt_kept _ _ ?_
    | with_reducible refine restartLate_kept _ ?_ | with_reducible refine actuate_kept _ _ ?_ | split

theorem bayMark_kept (p status : Nat) {s t : State} (hk : Kept s t) : Kept s (bayMark p status t).1 := by
  unfold bayMark
  try dsimp only
  repeat' first
    | with_reducible assumption | with_reducible refine dispatch_kept ?_ | with_reducible refine autoSealTest_kept _ ?_
    | with_reducible refine Kept.writeStatus ?_ rfl | with_reducible refine Kept.writeStatus ?_ rfl | split

/-! ### Batches and orders (Orders.lean) -/

theorem freeSlot_kept (slot : Nat) {s t : State} (hk : Kept s t) : Kept s (freeSlot slot t) := by
  unfold freeSlot
  repeat' first
    | with_reducible assumption | with_reducible refine dispatch_kept ?_
    | with_reducible refine writeBatch_kept _ _ ?_

theorem checkSlot_kept (slot : Nat) {s t : State} (hk : Kept s t) : Kept s (checkSlot slot t) := by
  unfold checkSlot
  repeat' first
    | with_reducible assumption | with_reducible refine freeSlot_kept _ ?_ | split

theorem releaseAt_kept (slot id p : Nat) {s t : State} (hk : Kept s t) : Kept s (releaseAt slot id p t) := by
  unfold releaseAt
  repeat' first
    | with_reducible assumption | with_reducible refine dispatch_kept ?_ | with_reducible refine bayLost_kept _ ?_ | with_reducible refine Kept.writeStatus ?_ rfl
    | split

theorem release_kept (slot : Nat) (r : BatchRecord) {s t : State} (hk : Kept s t) : Kept s (release slot r t) := by
  unfold release
  repeat' first
    | with_reducible assumption | with_reducible refine Kept.foldl _ _ (fun _ _ _ => ?_) ?_
    | with_reducible refine releaseAt_kept _ _ _ ?_

theorem batchEnd_kept (slot : Nat) (cause : EndCause) {s t : State} (hk : Kept s t) : Kept s (batchEnd slot cause t) := by
  unfold batchEnd
  try dsimp only
  repeat' first
    | with_reducible assumption | with_reducible refine writeBatch_kept _ _ ?_
    | with_reducible refine release_kept _ _ ?_ | with_reducible refine checkSlot_kept _ ?_
    | with_reducible refine raise_kept _ ?_ | split

theorem castGone_kept (slot id : Nat) {s t : State} (hk : Kept s t) : Kept s (castGone slot id t) := by
  unfold castGone
  repeat' first
    | with_reducible assumption | with_reducible refine checkSlot_kept _ ?_
    | with_reducible refine writeBatch_kept _ _ ?_ | split

theorem orderPost_kept (r : OrderRequest) {s t : State} (hk : Kept s t) : Kept s (orderPost r t).1 := by
  unfold orderPost
  split
  · exact hk
  · rename_i hl
    split
    · exact hk
    · split
      · exact hk
      · exact hk
      · exact hk
      · split
        · exact hk
        · dsimp only
          split
          · exact hk
          · refine dispatch_kept (hk.trans ⟨rfl, rfl, rfl, rfl, rfl, rfl, fun i => ⟨?_, i.2⟩⟩)
            simpa using Nat.succ_le_of_lt (Nat.lt_of_not_le hl)

theorem orderWithdraw_kept (n : Nat) {s t : State} (hk : Kept s t) : Kept s (orderWithdraw n t).1 := by
  unfold orderWithdraw
  split
  · exact hk.orders _ (List.length_filter_le _ _)
  · split
    · exact hk
    · exact hk

theorem queryBatch_kept (id : Nat) {s t : State} (hk : Kept s t) : Kept s (queryBatch id t).1 := by
  unfold queryBatch
  try dsimp only
  repeat' first
    | with_reducible assumption | split

/-! ### Pour Stations and shuttle (Pour.lean) -/

theorem shuttlePlace_kept (p : Nat) {s t : State} (hk : Kept s t) : Kept s (shuttlePlace p t) := by
  unfold shuttlePlace
  repeat' first
    | with_reducible assumption | with_reducible refine emit_kept _ ?_ | split
    | exact hk.same rfl rfl rfl rfl rfl rfl rfl rfl rfl rfl rfl rfl rfl

theorem shuttleTake_kept {s t : State} (hk : Kept s t) : Kept s (shuttleTake t) := by
  unfold shuttleTake
  repeat' first
    | with_reducible assumption | with_reducible refine shuttlePlace_kept _ ?_ | split
    | exact hk.same rfl rfl rfl rfl rfl rfl rfl rfl rfl rfl rfl rfl rfl

theorem shuttleCheck_kept {s t : State} (hk : Kept s t) : Kept s (shuttleCheck t) := by
  unfold shuttleCheck
  repeat' first
    | with_reducible assumption | with_reducible refine shuttleTake_kept ?_ | split

theorem shuttleDoor_kept (b : Nat) {s t : State} (hk : Kept s t) : Kept s (shuttleDoor b t) := by
  unfold shuttleDoor
  repeat' first
    | with_reducible assumption | with_reducible refine shuttlePlace_kept _ ?_ | split

theorem shuttleFail_kept (why : ShuttleReason) {s t : State} (hk : Kept s t) : Kept s (shuttleFail why t) := by
  unfold shuttleFail
  try dsimp only
  repeat' first
    | with_reducible assumption | with_reducible refine raise_kept _ ?_ | split
    | exact hk.same rfl rfl rfl rfl rfl rfl rfl rfl rfl rfl rfl rfl rfl

theorem callMold_kept (m : Mixer) {s t : State} (hk : Kept s t) (hc : Inv s → (t.station m).claim = true) :
    Kept s (callMold m t) :=
  Kept.station m _ (emit_kept _ hk) (fun i => PourStation.placed_claim (hc i)) fun h => .inl h

/-- A place is given where one is free. -/
theorem givePlace_kept (m : Mixer) {s t : State} (hk : Kept s t) (hf : placeFree t = true) : Kept s (givePlace m t) :=
  callMold_kept m (hk.station m _ (fun _ => PourStation.placed_claim rfl) fun _ => .inr hf) fun _ => by simp

theorem placeFreed_kept {s t : State} (hk : Kept s t) : Kept s (placeFreed t) := by
  unfold placeFreed
  split
  · exact hk
  · split
    · rename_i hf
      exact givePlace_kept _ (hk.same rfl rfl rfl rfl rfl rfl rfl rfl rfl rfl rfl rfl rfl) hf
    · exact hk

theorem enterSpace_kept (m : Mixer) {s t : State} (hk : Kept s t) : Kept s (enterSpace m t) := by
  unfold enterSpace
  split
  · rename_i hf
    exact givePlace_kept m hk hf.1
  · exact withStation_kept m _ (hk.same rfl rfl rfl rfl rfl rfl rfl rfl rfl rfl rfl rfl rfl)
      (fun x h => PourStation.placed_of h rfl (by simp) (.inl rfl) (.inl rfl)) fun _ h => h

theorem clearGate_kept (m : Mixer) {s t : State} (hk : Kept s t) : Kept s (clearGate m t) := by
  unfold clearGate
  try dsimp only
  repeat' first
    | with_reducible assumption | with_reducible refine emit_kept _ ?_ | split

/-- The claim is given up where nothing that needs it is under way. -/
theorem giveUpPlace_kept (m : Mixer) {s t : State} (hk : Kept s t) (h1 : (t.station m).step ≠ .read)
    (h2 : (t.station m).moldCall = none) : Kept s (giveUpPlace m t) := by
  have hw : Kept s (withStation m (fun x => { x with claim := x.claim && x.fill.isSome, spaceWait := none })
      { t with spaceList := t.spaceList.filter fun x => decide (x ≠ m) }) := by
    refine Kept.station m _ (hk.same rfl rfl rfl rfl rfl rfl rfl rfl rfl rfl rfl rfl rfl) (fun i => ?_) fun h => .inl ?_
    · have hp := (hk.inv i).2.2.2.2.2.2.2 m
      simp only [PourStation.placed, Bool.or_eq_true, Bool.and_eq_true, decide_eq_true_eq] at hp ⊢
      show _ ∨ ((t.station m).step ≠ .read ∧ (t.station m).moldCall.isNone = true) ∧ (t.station m).fill.isNone = true
      cases hf : (t.station m).fill with
      | none => exact .inr ⟨⟨h1, by rw [h2]; rfl⟩, rfl⟩
      | some v =>
        refine .inl ⟨?_, ?_⟩
        · rcases hp with hp | hp
          · exact hp
          · rw [hf] at hp; exact absurd hp.2 (by simp)
        · show (t.station m).fill.isSome = true
          rw [hf]; rfl
    · exact (Bool.and_eq_true_iff.mp h).1
  unfold giveUpPlace
  dsimp only
  split
  · exact placeFreed_kept hw
  · exact hw

theorem clearGate_station (m k : Mixer) (s : State) : (clearGate m s).station k = s.station k := by
  unfold clearGate
  dsimp only
  repeat' split
  all_goals rfl

theorem stopCycle_kept (m : Mixer) {s t : State} (hk : Kept s t) : Kept s (stopCycle m t) := by
  unfold stopCycle
  refine giveUpPlace_kept m (withStation_kept m _ (clearGate_kept m hk) (fun x h => ?_) fun _ h => h) ?_ ?_
  · refine PourStation.placed_of h rfl ?_ (.inr rfl) (.inl rfl)
    dsimp only
    split <;> simp
  · rw [withStation_station]
    dsimp only
    split <;> simp
  · rw [withStation_station]

theorem stepWait_kept (m : Mixer) (completed : Stage) (saved : Saved) {s t : State} (hk : Kept s t) : Kept s (stepWait m completed saved t) := by
  unfold stepWait
  try dsimp only
  repeat' first
    | with_reducible assumption | with_reducible refine withSeq_kept _ _ ?_ | with_reducible refine raise_kept _ ?_
    | with_reducible refine setDrive_kept _ _ ?_

theorem enterIdle_kept (m : Mixer) {s t : State} (hk : Kept s t) : Kept s (enterIdle m t) := by
  unfold enterIdle
  try dsimp only
  repeat' first
    | with_reducible assumption | with_reducible refine withSeq_kept _ _ ?_ | with_reducible refine dispatch_kept ?_
    | with_reducible refine writeMarker_kept _ _ ?_ | with_reducible refine setDrive_kept _ _ ?_
    | with_reducible refine withStation_kept _ _ ?_ ?_ ?_ | exact fun _ h => h

theorem enterDischarging_kept (m : Mixer) (cause : Option EndCause) (amount : Nat) {s t : State} (hk : Kept s t) : Kept s (enterDischarging m cause amount t) := by
  unfold enterDischarging
  try dsimp only
  repeat' first
    | with_reducible assumption | with_reducible refine withSeq_kept _ _ ?_
    | with_reducible refine stopCycle_kept _ ?_ | with_reducible refine deliver_kept _ _ _ ?_
    | with_reducible refine markStage_kept _ _ ?_ | with_reducible refine setDrive_kept _ _ ?_

theorem finishBatch_kept (m : Mixer) {s t : State} (hk : Kept s t) : Kept s (finishBatch m t) := by
  unfold finishBatch
  try dsimp only
  repeat' first
    | with_reducible assumption | with_reducible refine withSeq_kept _ _ ?_ | with_reducible refine dispatch_kept ?_
    | with_reducible refine batchEnd_kept _ _ ?_ | with_reducible refine enterDischarging_kept _ _ _ ?_
    | with_reducible refine enterIdle_kept _ ?_ | split

theorem pourEnd_kept (m : Mixer) {s t : State} (hk : Kept s t) : Kept s (pourEnd m t) := by
  unfold pourEnd
  repeat' first
    | with_reducible assumption | with_reducible refine stepWait_kept _ _ _ ?_
    | with_reducible refine batchEnd_kept _ _ ?_ | with_reducible refine finishBatch_kept _ ?_ | split

theorem beginCycle_kept (m : Mixer) {s t : State} (hk : Kept s t) : Kept s (beginCycle m t) := by
  unfold beginCycle
  repeat' first
    | with_reducible assumption | with_reducible refine pourEnd_kept _ ?_
    | with_reducible refine withStation_kept _ _ ?_ ?_ ?_ | exact fun _ h => h
    | exact fun _ h => PourStation.placed_of h rfl (by simp) (.inl rfl) (.inl rfl) | with_reducible refine enterSpace_kept _ ?_ | split

theorem enterPour_kept (m : Mixer) {s t : State} (hk : Kept s t) : Kept s (enterPour m t) := by
  unfold enterPour
  try dsimp only
  repeat' first
    | with_reducible assumption | with_reducible refine setDrive_kept _ _ ?_
    | with_reducible refine markStage_kept _ _ ?_ | with_reducible refine takeState_kept _ _ _ ?_
    | with_reducible refine withSeq_kept _ _ ?_ | with_reducible refine pourEnd_kept _ ?_
    | with_reducible refine beginCycle_kept _ ?_ | split

theorem updateBatch_stations (slot : Nat) (f : BatchRecord → BatchRecord) (s : State) :
    (updateBatch slot f s).stations = s.stations := by
  unfold updateBatch
  split <;> rfl

theorem updateOwnBatch_stations (m : Mixer) (f : BatchRecord → BatchRecord) (s : State) :
    (updateOwnBatch m f s).stations = s.stations := by
  unfold updateOwnBatch
  split
  · rfl
  · exact updateBatch_stations _ _ _

/-- A mold is rejected with the claim still held (R79 (4)). -/
theorem rejectMold_kept (m : Mixer) {s t : State} (hk : Kept s t) : Kept s (rejectMold m t) :=
  emit_kept _ (updateOwnBatch_kept _ _ (withStation_kept m _ hk
    (fun _ h => PourStation.placed_of h rfl (by simp) (.inl rfl) (.inl rfl)) fun _ h => h))

theorem rejectMold_claim (m : Mixer) (s : State) : ((rejectMold m s).station m).claim = (s.station m).claim := by
  have h : (rejectMold m s).stations = (withStation m (fun x => { x with step := .mold, mold := none }) s).stations :=
    updateOwnBatch_stations _ _ _
  simp only [State.station, h, withStation, get_put_same]

theorem startFill_kept (m : Mixer) {s t : State} (hk : Kept s t) (hc : Inv s → (t.station m).claim = true) :
    Kept s (startFill m t) := by
  unfold startFill
  exact Kept.station m _ (emit_kept _ hk) (fun i => PourStation.placed_claim (hc i)) fun h => .inl h

theorem moldRead_kept (m : Mixer) (x : Mold) {s t : State} (hk : Kept s t) (hr : (t.station m).step = .read) :
    Kept s (moldRead m x t) := by
  have hc : Inv s → (t.station m).claim = true := fun i => claim_of_inv m (hk.inv i) (.inl hr)
  have hw : Kept s (withStation m (fun y => { y with mold := some x, unreadable := 0 }) t) :=
    withStation_kept m _ hk (fun _ h => h) fun _ h => h
  unfold moldRead
  dsimp only
  split
  · exact startFill_kept m hw fun i => by rw [withStation_station]; exact hc i
  · exact callMold_kept m (rejectMold_kept m hw) fun i => by rw [rejectMold_claim, withStation_station]; exact hc i

theorem moldArrives_kept (m : Mixer) {s t : State} (hk : Kept s t) : Kept s (moldArrives m t) := by
  unfold moldArrives
  split
  · rename_i hm
    exact Kept.station m _ (emit_kept _ hk)
      (fun i => PourStation.placed_claim (claim_of_inv m (hk.inv i) (.inr (.inl hm)))) fun h => .inl h
  · exact emit_kept _ hk

/-- The places depend on the Transit Queue and the stations alone. -/
theorem PlacesKept.congr {s t : State} (h : PlacesKept s) (h1 : t.transit = s.transit) (h2 : t.stations = s.stations) :
    PlacesKept t := by
  simpa only [PlacesKept, claims, State.station, h1, h2] using h

/-- An entry joins the Transit Queue in place of a claim that a station gives up. -/
theorem PlacesKept.append {m : Mixer} {f : PourStation → PourStation} {s : State} (e : TransitEntry) (i : PlacesKept s)
    (hc : (s.station m).claim = true) (h1 : (f (s.station m)).placed = true) (h2 : (f (s.station m)).claim = false) :
    PlacesKept (withStation m f { s with transit := s.transit ++ [e] }) := by
  refine ⟨?_, fun k => ?_⟩
  · have hs := claims_withStation m f s
    have hl := i.1
    rw [hc, h2, Bool.toNat_true, Bool.toNat_false] at hs
    show (s.transit ++ [e]).length + claims (withStation m f s) ≤ _
    rw [List.length_append, List.length_singleton]
    omega
  · by_cases hk : k = m
    · subst hk
      rw [withStation_station]
      exact h1
    · rw [withStation_station_other _ _ hk]
      exact i.2 k

/-- The cast of a fill takes the place of the station's claim (R80, R91). -/
theorem createCast_kept (m : Mixer) (slot : Nat) (r : BatchRecord) (p mass : Nat) (off : Bool) {s t : State}
    (hk : Kept s t) (hc : Inv s → (t.station m).claim = true) (hf : (t.station m).fill = none)
    (hm : (t.station m).moldCall = none) : Kept s (createCast m slot r p mass off t) := by
  unfold createCast
  refine emit_kept _ (bayArrival_kept _ (updateBatch_kept _ _ ?_))
  have hw : Kept s (writeEntry p (.occupied (newCast slot r (nextCastId t) mass t.clock off))
      (write (.castCounter (nextCastId t)) t)) := Kept.writeCast (Kept.writePlain hk rfl) fun _ => rfl
  refine ⟨hw.powered, hw.oscillator, hw.clock, hw.batteryFail, hw.pending, hw.batteryCleared, fun i => ?_⟩
  have j := hw.inv i
  refine ⟨j.1, j.2.1, j.2.2.1, j.2.2.2.1, j.2.2.2.2.1, j.2.2.2.2.2.1, ?_⟩
  refine PlacesKept.append _ j.2.2.2.2.2.2 (hc i) ?_ rfl
  show (_ || (decide (PourStep.write ≠ .read) && (t.station m).moldCall.isNone && (t.station m).fill.isNone)) = true
  rw [hf, hm]
  rfl

theorem fillEnds_kept (m : Mixer) (target mass : Nat) {s t : State} (hk : Kept s t)
    (hf : (t.station m).fill.isSome = true) : Kept s (fillEnds m target mass t) := by
  unfold fillEnds
  dsimp only
  have hw : Kept s (withSeq m (fun q => { q with fillsTotal := q.fillsTotal + mass })
      (withStation m (fun x => { x with fill := none, castIndex := none, mold := none, moldCall := none }) t)) :=
    withSeq_kept m _ (Kept.station m _ hk
      (fun i => PourStation.placed_claim (claim_of_inv m (hk.inv i) (.inr (.inr hf)))) fun h => .inl h)
  have hst : ∀ f g, (withSeq m g (withStation m f t)).station m = f (t.station m) := fun f g => withStation_station m f t
  split
  · exact hw
  · split
    · exact withStation_kept m _ hw (fun _ h => PourStation.placed_of h rfl (by simp) (.inl rfl) (.inl rfl)) fun _ h => h
    · refine createCast_kept m _ _ _ _ _ hw (fun i => ?_) ?_ ?_
      · rw [hst]; exact claim_of_inv m (hk.inv i) (.inr (.inr hf))
      · rw [hst]
      · rw [hst]

theorem afterWrite_kept (m : Mixer) {s t : State} (hk : Kept s t) : Kept s (afterWrite m t) := by
  unfold afterWrite
  repeat' first
    | with_reducible assumption | with_reducible refine beginCycle_kept _ ?_
    | with_reducible refine withStation_kept _ _ ?_ ?_ ?_ | exact fun _ h => h
    | exact fun _ h => PourStation.placed_of h rfl (by simp) (.inl rfl) (.inl rfl) | with_reducible refine Kept.writePlain ?_ rfl | split

theorem markWritten_kept (id : Nat) {s t : State} (hk : Kept s t) : Kept s (markWritten id t) :=
  hk.transit _ (by simp)

theorem tagWritten_kept (m : Mixer) (written : Bool) {s t : State} (hk : Kept s t) : Kept s (tagWritten m written t) := by
  unfold tagWritten
  try dsimp only
  repeat' first
    | with_reducible assumption | with_reducible refine withStation_kept _ _ ?_ ?_ ?_ | exact fun _ h => h
    | exact fun _ h => PourStation.placed_of h rfl (by simp) (.inl rfl) (.inl rfl)
    | with_reducible refine afterWrite_kept _ ?_ | with_reducible refine updateCast_kept _ _ ?_ ?_
    | with_reducible refine shuttleCheck_kept ?_ | with_reducible refine markWritten_kept _ ?_ | exact fun _ hc => hc
    | split

theorem updateCast_transit (p : Nat) (f : CastPart → CastPart) (s : State) : (updateCast p f s).transit = s.transit := by
  unfold updateCast putCast
  repeat' split
  all_goals rfl

theorem placeCast_transit (p : Nat) (s : State) : (placeCast p s).transit = s.transit := updateCast_transit _ _ _

theorem placementConfirmed_kept {s t : State} (hk : Kept s t) : Kept s (placementConfirmed t) := by
  unfold placementConfirmed
  split
  · exact hk.same rfl rfl rfl rfl rfl rfl rfl rfl rfl rfl rfl rfl rfl
  · rename_i e rest hl
    refine shuttleCheck_kept (Kept.same (t := evaluateAt _ _) ?_ rfl rfl rfl rfl rfl rfl rfl rfl rfl rfl rfl rfl rfl)
    refine evaluateAt_kept _ (bayPlaced_kept _ (placeFreed_kept ?_))
    exact (placeCast_kept _ hk).transit _ (by rw [placeCast_transit, hl]; simp)

theorem placementEnds_kept (confirmed : Bool) {s t : State} (hk : Kept s t) : Kept s (placementEnds confirmed t) := by
  unfold placementEnds
  repeat' first
    | with_reducible assumption | with_reducible refine placementConfirmed_kept ?_
    | with_reducible refine shuttleFail_kept _ ?_ | split

theorem doorWaitEnds_kept {s t : State} (hk : Kept s t) : Kept s (doorWaitEnds t) := by
  unfold doorWaitEnds
  repeat' first
    | with_reducible assumption | with_reducible refine shuttleFail_kept _ ?_ | split

theorem shuttleRetry_kept {s t : State} (hk : Kept s t) : Kept s (shuttleRetry t).1 := by
  unfold shuttleRetry
  try dsimp only
  repeat' first
    | with_reducible assumption | with_reducible refine shuttleTake_kept ?_ | split

theorem moveCast_kept (old new : Nat) (c : CastPart) {s t : State} (hk : Kept s t) (hc : Inv t → c.inRange = true) :
    Kept s (moveCast old new c t) :=
  (hk.writeCast hc).writeStatus rfl

theorem castMoved_kept (old new : Nat) {s t : State} (hk : Kept s t) : Kept s (castMoved old new t) :=
  dispatch_kept (bayLost_kept _ (bayArrival_kept _ hk))

theorem redirect_kept (old new : Nat) (c : CastPart) {s t : State} (hk : Kept s t) (hc : Inv t → c.inRange = true) :
    Kept s (redirect old new c t).1 := by
  unfold redirect
  split
  · rename_i e rest _ hl
    repeat' split
    · exact hk
    · exact hk
    · exact hk
    · refine shuttleTake_kept (castMoved_kept _ _ ?_)
      exact (moveCast_kept old new c hk hc).transit _ (by show _ ≤ t.transit.length; rw [hl]; simp)
  · exact hk

theorem confirmCast_kept (p : Nat) (c : CastPart) {s t : State} (hk : Kept s t) : Kept s (confirmCast p c t).1 := by
  unfold confirmCast
  try dsimp only
  repeat' first
    | with_reducible assumption | with_reducible refine evaluateAt_kept _ ?_
    | with_reducible refine bayPlaced_kept _ ?_ | with_reducible refine placeCast_kept _ ?_

theorem replaceCast_kept (old new : Nat) (c : CastPart) {s t : State} (hk : Kept s t) (hc : Inv t → c.inRange = true) :
    Kept s (replaceCast old new c t).1 :=
  evaluateAt_kept _ (castMoved_kept _ _ (moveCast_kept old new _ hk hc))

theorem castPlace_kept (id p : Nat) {s t : State} (hk : Kept s t) : Kept s (castPlace id p t).1 := by
  unfold castPlace
  split
  · exact hk
  · split
    · exact hk
    · rename_i c hc
      have hr : Inv t → c.inRange = true := fun i => castAt_inRange i hc
      split
      · exact redirect_kept _ _ _ hk hr
      · repeat' split
        · exact hk
        · exact confirmCast_kept _ _ hk
        · exact hk
        · exact hk
        · exact replaceCast_kept _ _ _ hk hr
      · exact hk

/-! ### Mixers (Mixer.lean) -/

theorem weigh_kept (m : Mixer) {s t : State} (hk : Kept s t) : Kept s (weigh m t) := by
  unfold weigh
  try dsimp only
  repeat' first
    | with_reducible assumption | with_reducible refine beginComponent_kept _ _ ?_
    | with_reducible refine deliver_kept _ _ _ ?_ | with_reducible refine emit_kept _ ?_ | split

theorem grant_kept (m : Mixer) (waiting : List Mixer) {s t : State} (hk : Kept s t) : Kept s (grant m waiting t) := by
  unfold grant
  repeat' first
    | with_reducible assumption | with_reducible refine weigh_kept _ ?_ | split
    | exact hk.same rfl rfl rfl rfl rfl rfl rfl rfl rfl rfl rfl rfl rfl

theorem requestScale_kept (m : Mixer) {s t : State} (hk : Kept s t) : Kept s (requestScale m t) := by
  unfold requestScale
  repeat' first
    | with_reducible assumption | with_reducible refine grant_kept _ _ ?_ | split
    | exact hk.same rfl rfl rfl rfl rfl rfl rfl rfl rfl rfl rfl rfl rfl

theorem releaseGrant_kept {s t : State} (hk : Kept s t) : Kept s (releaseGrant t) := by
  unfold releaseGrant
  repeat' first
    | with_reducible assumption | with_reducible refine grant_kept _ _ ?_ | split
    | exact hk.same rfl rfl rfl rfl rfl rfl rfl rfl rfl rfl rfl rfl rfl

theorem leaveScale_kept (m : Mixer) {s t : State} (hk : Kept s t) : Kept s (leaveScale m t) := by
  unfold leaveScale
  try dsimp only
  repeat' first
    | with_reducible assumption | with_reducible refine releaseGrant_kept ?_ | with_reducible refine emit_kept _ ?_
    | split | exact hk.same rfl rfl rfl rfl rfl rfl rfl rfl rfl rfl rfl rfl rfl

theorem endDelivery_kept (m : Mixer) {s t : State} (hk : Kept s t) : Kept s (endDelivery m t) := by
  unfold endDelivery
  repeat' first
    | with_reducible assumption | with_reducible refine withSeq_kept _ _ ?_

theorem takeReading_kept {s t : State} (hk : Kept s t) : Kept s (takeReading t) := by
  unfold takeReading
  repeat' first
    | with_reducible assumption | split | exact hk.same rfl rfl rfl rfl rfl rfl rfl rfl rfl rfl rfl rfl rfl

theorem charge_kept (m : Mixer) (c : Component) (v : Nat) {s t : State} (hk : Kept s t) : Kept s (charge m c v t) := by
  unfold charge
  try dsimp only
  repeat' first
    | with_reducible assumption | with_reducible refine writeActual_kept _ _ _ ?_
    | with_reducible refine withSeq_kept _ _ ?_

theorem chargeCement_kept (m : Mixer) (v : Nat) {s t : State} (hk : Kept s t) : Kept s (chargeCement m v t) := by
  unfold chargeCement
  try dsimp only
  repeat' first
    | with_reducible assumption | with_reducible refine writeActual_kept _ _ _ ?_
    | with_reducible refine withSeq_kept _ _ ?_

theorem stopDelivery_kept (m : Mixer) {s t : State} (hk : Kept s t) : Kept s (stopDelivery m t) := by
  unfold stopDelivery
  try dsimp only
  repeat' first
    | with_reducible assumption | with_reducible refine endDelivery_kept _ ?_ | with_reducible refine emit_kept _ ?_
    | with_reducible refine charge_kept _ _ _ ?_ | with_reducible refine takeReading_kept ?_
    | with_reducible refine chargeCement_kept _ _ ?_ | split

theorem launchHoldAt_kept (m : Mixer) (cause : HoldCause) (named : Option Component) (st : Stage) {s t : State} (hk : Kept s t) : Kept s (launchHoldAt m cause named st t) := by
  unfold launchHoldAt
  try dsimp only
  repeat' first
    | with_reducible assumption | with_reducible refine leaveScale_kept _ ?_
    | with_reducible refine stopDelivery_kept _ ?_ | with_reducible refine withSeq_kept _ _ ?_
    | with_reducible refine stopCycle_kept _ ?_ | with_reducible refine setDrive_kept _ _ ?_
    | with_reducible refine raise_kept _ ?_ | split

theorem raiseHold_kept (m : Mixer) (cause : HoldCause) (named : Option Component) {s t : State} (hk : Kept s t) : Kept s (raiseHold m cause named t) := by
  unfold raiseHold
  repeat' first
    | with_reducible assumption | with_reducible refine withSeq_kept _ _ ?_
    | with_reducible refine launchHoldAt_kept _ _ _ _ ?_ | split

theorem lockOut_kept (m : Mixer) (second : SecondCause) {s t : State} (hk : Kept s t) : Kept s (lockOut m second t) := by
  unfold lockOut
  try dsimp only
  repeat' first
    | with_reducible assumption | with_reducible refine setDrive_kept _ _ ?_
    | with_reducible refine withSeq_kept _ _ ?_ | with_reducible refine raise_kept _ ?_ | split

theorem overloadEvent_kept (m : Mixer) {s t : State} (hk : Kept s t) : Kept s (overloadEvent m t) := by
  unfold overloadEvent
  repeat' first
    | with_reducible assumption | with_reducible refine lockOut_kept _ _ ?_
    | with_reducible refine raiseHold_kept _ _ _ ?_ | split

theorem overloadInput_kept (m : Mixer) (asserted : Bool) {s t : State} (hk : Kept s t) : Kept s (overloadInput m asserted t) := by
  unfold overloadInput
  try dsimp only
  repeat' first
    | with_reducible assumption | with_reducible refine withSeq_kept _ _ ?_
    | with_reducible refine overloadEvent_kept _ ?_ | split

theorem dischargeNow_kept (m : Mixer) (cause : EndCause) {s t : State} (hk : Kept s t) : Kept s (dischargeNow m cause t) := by
  unfold dischargeNow
  try dsimp only
  repeat' first
    | with_reducible assumption | with_reducible refine stopDelivery_kept _ ?_
    | with_reducible refine enterDischarging_kept _ _ _ ?_

theorem startPotLife_kept (m : Mixer) {s t : State} (hk : Kept s t) : Kept s (startPotLife m t) := by
  unfold startPotLife
  repeat' first
    | with_reducible assumption | with_reducible refine withSeq_kept _ _ ?_ | split

theorem afterMix_kept (m : Mixer) {s t : State} (hk : Kept s t) : Kept s (afterMix m t) := by
  unfold afterMix
  repeat' first
    | with_reducible assumption | with_reducible refine stepWait_kept _ _ _ ?_
    | with_reducible refine enterPour_kept _ ?_ | split

theorem enterMix_kept (m : Mixer) {s t : State} (hk : Kept s t) : Kept s (enterMix m t) := by
  unfold enterMix
  try dsimp only
  repeat' first
    | with_reducible assumption | with_reducible refine setDrive_kept _ _ ?_
    | with_reducible refine markStage_kept _ _ ?_ | with_reducible refine takeState_kept _ _ _ ?_
    | with_reducible refine withSeq_kept _ _ ?_

theorem afterLiquids_kept (m : Mixer) {s t : State} (hk : Kept s t) : Kept s (afterLiquids m t) := by
  unfold afterLiquids
  try dsimp only
  repeat' first
    | with_reducible assumption | with_reducible refine withSeq_kept _ _ ?_
    | with_reducible refine stepWait_kept _ _ _ ?_ | with_reducible refine enterMix_kept _ ?_ | split

theorem doseWater_kept (m : Mixer) {s t : State} (hk : Kept s t) : Kept s (doseWater m t) := by
  unfold doseWater
  repeat' first
    | with_reducible assumption | with_reducible refine afterLiquids_kept _ ?_
    | with_reducible refine writeActual_kept _ _ _ ?_ | with_reducible refine deliver_kept _ _ _ ?_
    | with_reducible refine startPotLife_kept _ ?_ | with_reducible refine beginComponent_kept _ _ ?_ | split

theorem enterLiquids_kept (m : Mixer) {s t : State} (hk : Kept s t) : Kept s (enterLiquids m t) := by
  unfold enterLiquids
  try dsimp only
  repeat' first
    | with_reducible assumption | with_reducible refine markStage_kept _ _ ?_
    | with_reducible refine takeState_kept _ _ _ ?_ | with_reducible refine doseWater_kept _ ?_
    | with_reducible refine writeActual_kept _ _ _ ?_ | with_reducible refine deliver_kept _ _ _ ?_
    | with_reducible refine beginComponent_kept _ _ ?_ | split

theorem afterCement_kept (m : Mixer) {s t : State} (hk : Kept s t) : Kept s (afterCement m t) := by
  unfold afterCement
  repeat' first
    | with_reducible assumption | with_reducible refine stepWait_kept _ _ _ ?_
    | with_reducible refine enterLiquids_kept _ ?_ | split

theorem enterCement_kept (m : Mixer) {s t : State} (hk : Kept s t) : Kept s (enterCement m t) := by
  unfold enterCement
  repeat' first
    | with_reducible assumption | with_reducible refine requestScale_kept _ ?_
    | with_reducible refine markStage_kept _ _ ?_ | with_reducible refine takeState_kept _ _ _ ?_

theorem afterAsh_kept (m : Mixer) {s t : State} (hk : Kept s t) : Kept s (afterAsh m t) := by
  unfold afterAsh
  repeat' first
    | with_reducible assumption | with_reducible refine stepWait_kept _ _ _ ?_
    | with_reducible refine enterCement_kept _ ?_ | split

theorem enterStage_kept (m : Mixer) (st : Stage) {s t : State} (hk : Kept s t) : Kept s (enterStage m st t) := by
  unfold enterStage
  repeat' first
    | with_reducible assumption | with_reducible refine enterAsh_kept _ ?_
    | with_reducible refine enterCement_kept _ ?_ | with_reducible refine enterLiquids_kept _ ?_
    | with_reducible refine enterMix_kept _ ?_ | with_reducible refine enterPour_kept _ ?_ | split

theorem accept_kept (m : Mixer) (c : Component) {s t : State} (hk : Kept s t) : Kept s (accept m c t) := by
  unfold accept
  try dsimp only
  repeat' first
    | with_reducible assumption | with_reducible refine withSeq_kept _ _ ?_ | with_reducible refine afterAsh_kept _ ?_
    | with_reducible refine doseWater_kept _ ?_ | with_reducible refine startPotLife_kept _ ?_
    | with_reducible refine afterLiquids_kept _ ?_ | split

theorem judgeDose_kept (m : Mixer) (ch : Channel) (c : Component) {s t : State} (hk : Kept s t) : Kept s (judgeDose m ch c t) := by
  unfold judgeDose
  try dsimp only
  repeat' first
    | with_reducible assumption | with_reducible refine accept_kept _ _ ?_
    | with_reducible refine raiseHold_kept _ _ _ ?_ | with_reducible refine deliver_kept _ _ _ ?_
    | with_reducible refine withSeq_kept _ _ ?_ | split

theorem doseCompletes_kept (m : Mixer) (d : DoseChannel) (amount : Nat) {s t : State} (hk : Kept s t) : Kept s (doseCompletes m d amount t) := by
  unfold doseCompletes
  try dsimp only
  repeat' first
    | with_reducible assumption | with_reducible refine judgeDose_kept _ _ _ ?_
    | with_reducible refine charge_kept _ _ _ ?_ | with_reducible refine endDelivery_kept _ ?_ | split

theorem judgeCement_kept (m : Mixer) {s t : State} (hk : Kept s t) : Kept s (judgeCement m t) := by
  unfold judgeCement
  try dsimp only
  repeat' first
    | with_reducible assumption | with_reducible refine deliver_kept _ _ _ ?_
    | with_reducible refine raiseHold_kept _ _ _ ?_ | with_reducible refine withSeq_kept _ _ ?_ | split

theorem weighingCompletes_kept (amount : Nat) {s t : State} (hk : Kept s t) : Kept s (weighingCompletes amount t) := by
  unfold weighingCompletes
  repeat' first
    | with_reducible assumption | with_reducible refine judgeCement_kept _ ?_
    | with_reducible refine endDelivery_kept _ ?_ | split | exact hk.same rfl rfl rfl rfl rfl rfl rfl rfl rfl rfl rfl rfl rfl

theorem cementCompletes_kept (m : Mixer) (amount : Nat) {s t : State} (hk : Kept s t) : Kept s (cementCompletes m amount t) := by
  unfold cementCompletes
  try dsimp only
  repeat' first
    | with_reducible assumption | with_reducible refine chargeCement_kept _ _ ?_
    | with_reducible refine endDelivery_kept _ ?_ | with_reducible refine releaseGrant_kept ?_
    | with_reducible refine withSeq_kept _ _ ?_ | with_reducible refine startPotLife_kept _ ?_
    | with_reducible refine launchHoldAt_kept _ _ _ _ ?_ | with_reducible refine afterCement_kept _ ?_ | split

theorem rejectCompletes_kept (m : Mixer) {s t : State} (hk : Kept s t) : Kept s (rejectCompletes m t) := by
  unfold rejectCompletes
  try dsimp only
  repeat' first
    | with_reducible assumption | with_reducible refine endDelivery_kept _ ?_
    | with_reducible refine enterIdle_kept _ ?_ | with_reducible refine dispatch_kept ?_
    | with_reducible refine batchEnd_kept _ _ ?_ | split

theorem deliveryTimedOut_kept (m : Mixer) (ch : Channel) {s t : State} (hk : Kept s t) :
    Kept s (deliveryTimedOut m ch t) := by
  unfold deliveryTimedOut
  repeat' first
    | with_reducible assumption | with_reducible refine raiseHold_kept _ _ _ ?_
    | with_reducible refine launchHoldAt_kept _ _ _ _ ?_ | split

theorem deliveryExpires_kept (m : Mixer) {s t : State} (hk : Kept s t) : Kept s (deliveryExpires m t) := by
  unfold deliveryExpires
  repeat' first
    | with_reducible assumption | with_reducible refine deliveryTimedOut_kept _ _ ?_ | split

theorem mixExpires_kept (m : Mixer) {s t : State} (hk : Kept s t) : Kept s (mixExpires m t) := by
  unfold mixExpires
  repeat' first
    | with_reducible assumption | with_reducible refine afterMix_kept _ ?_ | with_reducible refine withSeq_kept _ _ ?_
    | with_reducible refine setDrive_kept _ _ ?_ | split

theorem potLifeOver_kept (m : Mixer) {s t : State} (hk : Kept s t) : Kept s (potLifeOver m t) := by
  unfold potLifeOver
  repeat' first
    | with_reducible assumption | with_reducible refine dischargeNow_kept _ _ ?_
    | with_reducible refine stepWait_kept _ _ _ ?_ | with_reducible refine withSeq_kept _ _ ?_
    | with_reducible refine lockOut_kept _ _ ?_ | split

theorem potLifeExpires_kept (m : Mixer) {s t : State} (hk : Kept s t) : Kept s (potLifeExpires m t) := by
  unfold potLifeExpires
  repeat' first
    | with_reducible assumption | with_reducible refine potLifeOver_kept _ ?_ | split

theorem fillCompletes_kept (m : Mixer) (mass : Nat) {s t : State} (hk : Kept s t) : Kept s (fillCompletes m mass t) := by
  unfold fillCompletes
  split
  · exact hk
  · rename_i target hf
    have he : Kept s (fillEnds m target mass t) := fillEnds_kept m target mass hk (by rw [hf]; rfl)
    dsimp only
    repeat' first
      | with_reducible assumption | with_reducible refine dischargeNow_kept _ _ ?_
      | with_reducible refine launchHoldAt_kept _ _ _ _ ?_ | with_reducible refine pourEnd_kept _ ?_ | split

theorem moldUnread_kept (m : Mixer) {s t : State} (hk : Kept s t) (hr : (t.station m).step = .read) :
    Kept s (moldUnread m t) := by
  have hw : Kept s (withStation m (fun x => { x with readAttempts := (t.station m).readAttempts + 1 }) t) :=
    withStation_kept m _ hk (fun _ h => h) fun _ h => h
  have hv : ∀ k, Kept s (rejectMold m (withStation m (fun x => { x with unreadable := k })
      (withStation m (fun x => { x with readAttempts := (t.station m).readAttempts + 1 }) t))) := fun k =>
    rejectMold_kept m (withStation_kept m _ hw (fun _ h => h) fun _ h => h)
  unfold moldUnread
  dsimp only
  split
  · exact emit_kept _ hw
  · split
    · exact raiseHold_kept _ _ _ (hv _)
    · exact callMold_kept m (hv _) fun i => by
        rw [rejectMold_claim, withStation_station, withStation_station]
        exact claim_of_inv m (hk.inv i) (.inl hr)

theorem tagReadEnds_kept (m : Mixer) (r : TagRead) {s t : State} (hk : Kept s t) : Kept s (tagReadEnds m r t) := by
  unfold tagReadEnds
  split
  · rename_i hr
    split
    · exact moldRead_kept _ _ hk hr
    · exact moldUnread_kept _ hk hr
  · exact hk

theorem spaceWaitExpires_kept (m : Mixer) {s t : State} (hk : Kept s t) : Kept s (spaceWaitExpires m t) := by
  unfold spaceWaitExpires
  repeat' first
    | with_reducible assumption | with_reducible refine raiseHold_kept _ _ _ ?_
    | with_reducible refine withStation_kept _ _ ?_ ?_ ?_ | exact fun _ h => h
    | exact fun _ h => PourStation.placed_of h rfl (by simp) (.inl rfl) (.inl rfl) | split | exact hk.same rfl rfl rfl rfl rfl rfl rfl rfl rfl rfl rfl rfl rfl

theorem moldCallExpires_kept (m : Mixer) {s t : State} (hk : Kept s t) : Kept s (moldCallExpires m t) := by
  unfold moldCallExpires
  repeat' first
    | with_reducible assumption | with_reducible refine raiseHold_kept _ _ _ ?_ | split

theorem doseAt_kept (slot id p : Nat) {s t : State} (hk : Kept s t) : Kept s (doseAt slot id p t) := by
  unfold doseAt
  try dsimp only
  repeat' first
    | with_reducible assumption | with_reducible refine updateCast_kept _ _ ?_ ?_
    | with_reducible refine evaluateAt_kept _ ?_ | exact fun _ hc => hc | split

theorem setDeviation_kept (m : Mixer) {s t : State} (hk : Kept s t) : Kept s (setDeviation m t) := by
  unfold setDeviation
  repeat' first
    | with_reducible assumption | with_reducible refine Kept.foldl _ _ (fun _ _ _ => ?_) ?_
    | with_reducible refine doseAt_kept _ _ _ ?_ | with_reducible refine updateBatch_kept _ _ ?_ | split

theorem continueDose_kept (m : Mixer) (ch : Channel) (c : Component) (h : HoldRecord) {s t : State} (hk : Kept s t) : Kept s (continueDose m ch c h t) := by
  unfold continueDose
  try dsimp only
  repeat' first
    | with_reducible assumption | with_reducible refine deliver_kept _ _ _ ?_
    | with_reducible refine raiseHold_kept _ _ _ ?_ | with_reducible refine accept_kept _ _ ?_ | split

theorem takeStage_kept (m : Mixer) (st : Stage) {s t : State} (hk : Kept s t) : Kept s (takeStage m st t) := by
  unfold takeStage
  repeat' first
    | with_reducible assumption | with_reducible refine markStage_kept _ _ ?_
    | with_reducible refine takeState_kept _ _ _ ?_ | with_reducible refine withSeq_kept _ _ ?_
    | with_reducible refine withStation_kept _ _ ?_ ?_ ?_ | exact fun _ h => h
    | exact fun _ h => PourStation.placed_of h rfl (by simp) (.inl rfl) (.inl rfl) | split

theorem resumeStage_kept (m : Mixer) (h : HoldRecord) {s t : State} (hk : Kept s t) : Kept s (resumeStage m h t) := by
  unfold resumeStage
  repeat' first
    | with_reducible assumption | with_reducible refine continueDose_kept _ _ _ _ ?_
    | with_reducible refine takeStage_kept _ _ ?_
    | with_reducible refine enterCement_kept _ ?_ | with_reducible refine withSeq_kept _ _ ?_
    | with_reducible refine enterPour_kept _ ?_ | with_reducible refine withStation_kept _ _ ?_ ?_ ?_ | exact fun _ h => h
    | exact fun _ h => PourStation.placed_of h rfl (by simp) (.inl rfl) (.inl rfl)
    | with_reducible refine enterStage_kept _ _ ?_ | split

theorem holdAgain_kept (m : Mixer) (h : HoldRecord) {s t : State} (hk : Kept s t) : Kept s (holdAgain m h t) := by
  unfold holdAgain
  dsimp only
  refine raiseHold_kept _ _ _ ?_
  split
  · exact resumeStage_kept m h hk
  · exact takeStage_kept m _ hk

theorem resume_kept (m : Mixer) (h : HoldRecord) {s t : State} (hk : Kept s t) : Kept s (resume m h t) := by
  unfold resume
  try dsimp only
  repeat' first
    | with_reducible assumption | with_reducible refine withSeq_kept _ _ ?_
    | with_reducible refine setDeviation_kept _ ?_ | with_reducible refine resumeStage_kept _ _ ?_
    | with_reducible refine holdAgain_kept _ _ ?_ | split

theorem namingMixer_kept (code : Nat) (f : Mixer → State × Reply) {s t : State} (hk : Kept s t)
    (hf : ∀ m, Kept s (f m).1) : Kept s (namingMixer code f t).1 := by
  unfold namingMixer
  split
  · exact hk
  · exact hf _

theorem mixerHold_kept (code : Nat) {s t : State} (hk : Kept s t) : Kept s (mixerHold code t).1 := by
  refine namingMixer_kept code _ hk fun m => ?_
  repeat' first
    | with_reducible assumption | with_reducible refine raiseHold_kept _ _ _ ?_ | split

theorem mixerResume_kept (code : Nat) {s t : State} (hk : Kept s t) : Kept s (mixerResume code t).1 := by
  refine namingMixer_kept code _ hk fun m => ?_
  repeat' first
    | with_reducible assumption | with_reducible refine resume_kept _ _ ?_ | split

theorem mixerAbandon_kept (code : Nat) {s t : State} (hk : Kept s t) : Kept s (mixerAbandon code t).1 := by
  refine namingMixer_kept code _ hk fun m => ?_
  repeat' first
    | with_reducible assumption | with_reducible refine dischargeNow_kept _ _ ?_
    | with_reducible refine withSeq_kept _ _ ?_ | split

theorem mixerStep_kept (code : Nat) {s t : State} (hk : Kept s t) : Kept s (mixerStep code t).1 := by
  refine namingMixer_kept code _ hk fun m => ?_
  repeat' first
    | with_reducible assumption | with_reducible refine enterStage_kept _ _ ?_
    | with_reducible refine finishBatch_kept _ ?_ | with_reducible refine withSeq_kept _ _ ?_ | split

theorem mixerClear_kept (code : Nat) {s t : State} (hk : Kept s t) : Kept s (mixerClear code t).1 := by
  refine namingMixer_kept code _ hk fun m => ?_
  repeat' first
    | with_reducible assumption | with_reducible refine enterIdle_kept _ ?_
    | with_reducible refine batchEnd_kept _ _ ?_ | split

/-! ### Aligners and Station Link (Stations.lean) -/

theorem holdFlags_kept (b : Nat) (r : Report) {s t : State} (hk : Kept s t) : Kept s (holdFlags b r t) := by
  unfold holdFlags
  repeat' first
    | with_reducible assumption | with_reducible refine withBay_kept _ _ ?_

theorem stepFlag_kept (b : Nat) (r : Report) {s t : State} (hk : Kept s t) : Kept s (stepFlag b r t) := by
  unfold stepFlag
  repeat' first
    | with_reducible assumption | with_reducible refine enterLock_kept _ ?_
    | with_reducible refine enterCondition_kept _ ?_ | with_reducible refine sealDone_kept _ _ ?_
    | with_reducible refine enterOpen_kept _ ?_ | with_reducible refine enterUnloading_kept _ ?_ | split

theorem latchFlag_kept (b : Nat) (r : Report) {s t : State} (hk : Kept s t) : Kept s (latchFlag b r t) := by
  unfold latchFlag
  repeat' first
    | with_reducible assumption | with_reducible refine breach_kept _ ?_ | split

theorem takeFlags_kept (b : Nat) (r : Report) {s t : State} (hk : Kept s t) : Kept s (takeFlags b r t) := by
  unfold takeFlags
  try dsimp only
  repeat' first
    | with_reducible assumption | with_reducible refine stepFlag_kept _ _ ?_
    | with_reducible refine latchFlag_kept _ _ ?_ | with_reducible refine shuttleDoor_kept _ ?_
    | with_reducible refine holdFlags_kept _ _ ?_ | with_reducible refine buttonPress_kept _ ?_ | split

theorem substitute_kept (b : Nat) {s t : State} (hk : Kept s t) : Kept s (substitute b t) := by
  unfold substitute
  try dsimp only
  repeat' first
    | with_reducible assumption | with_reducible refine creditInterval_kept _ ?_
    | with_reducible refine withAligner_kept _ _ ?_

theorem startLate_kept (b : Nat) {s t : State} (hk : Kept s t) : Kept s (startLate b t) := by
  unfold startLate
  try dsimp only
  repeat' first
    | with_reducible assumption | with_reducible refine withAligner_kept _ _ ?_

theorem takeInterval_kept (b : Nat) (r : Report) {s t : State} (hk : Kept s t) : Kept s (takeInterval b r t) := by
  unfold takeInterval
  repeat' first
    | with_reducible assumption | with_reducible refine substitute_kept _ ?_
    | with_reducible refine withAligner_kept _ _ ?_ | with_reducible refine creditInterval_kept _ ?_ | split

theorem acceptReport_kept (b : Nat) (r : Report) {s t : State} (hk : Kept s t) : Kept s (acceptReport b r t) := by
  unfold acceptReport
  repeat' first
    | with_reducible assumption | with_reducible refine startLate_kept _ ?_
    | with_reducible refine withAligner_kept _ _ ?_ | with_reducible refine takeFlags_kept _ _ ?_
    | with_reducible refine takeInterval_kept _ _ ?_

theorem lockOn_kept (b : Nat) (r : Report) {s t : State} (hk : Kept s t) : Kept s (lockOn b r t) := by
  unfold lockOn
  repeat' first
    | with_reducible assumption | with_reducible refine withAligner_kept _ _ ?_

theorem cutTest_kept (b : Nat) {s t : State} (hk : Kept s t) : Kept s (cutTest b t) := by
  unfold cutTest
  try dsimp only
  repeat' first
    | with_reducible assumption | with_reducible refine raise_kept _ ?_
    | with_reducible refine withAligner_kept _ _ ?_ | split

theorem acceptLocked_kept (b : Nat) (r : Report) {s t : State} (hk : Kept s t) : Kept s (acceptLocked b r t) := by
  unfold acceptLocked
  try dsimp only
  repeat' first
    | with_reducible assumption | with_reducible refine lockOn_kept _ _ ?_
    | with_reducible refine acceptReport_kept _ _ ?_ | with_reducible refine cutTest_kept _ ?_ | split

theorem misinsert_kept (b : Nat) (r : Report) {s t : State} (hk : Kept s t) : Kept s (misinsert b r t) := by
  unfold misinsert
  try dsimp only
  repeat' first
    | with_reducible assumption | with_reducible refine withAligner_kept _ _ ?_

theorem substitutes_kept (b n : Nat) {s t : State} (hk : Kept s t) : Kept s (substitutes b n t) := by
  induction n generalizing t with
  | zero => exact hk
  | succ n ih => exact ih (substitute_kept b hk)

theorem insertLost_kept (b k : Nat) {s t : State} (hk : Kept s t) : Kept s (insertLost b k t) :=
  withAligner_kept _ _ (substitutes_kept b k hk)

theorem reportLocked_kept (b : Nat) (r : Report) {s t : State} (hk : Kept s t) : Kept s (reportLocked b r t) := by
  unfold reportLocked
  try dsimp only
  repeat' first
    | with_reducible assumption | with_reducible refine acceptLocked_kept _ _ ?_
    | with_reducible refine insertLost_kept _ _ ?_ | with_reducible refine misinsert_kept _ _ ?_ | split

theorem reportCandidate_kept (b : Nat) (r : Report) {s t : State} (hk : Kept s t) : Kept s (reportCandidate b r t) := by
  unfold reportCandidate
  try dsimp only
  repeat' first
    | with_reducible assumption | with_reducible refine lockOn_kept _ _ ?_
    | with_reducible refine acceptReport_kept _ _ ?_ | with_reducible refine dispatch_kept ?_
    | with_reducible refine raise_kept _ ?_ | with_reducible refine withAligner_kept _ _ ?_ | split

theorem takeReport_kept (b : Nat) (r : Report) {s t : State} (hk : Kept s t) : Kept s (takeReport b r t) := by
  unfold takeReport
  repeat' first
    | with_reducible assumption | with_reducible refine reportLocked_kept _ _ ?_
    | with_reducible refine reportCandidate_kept _ _ ?_ | split

theorem lateExpires_kept (b : Nat) {s t : State} (hk : Kept s t) : Kept s (lateExpires b t) := by
  unfold lateExpires
  try dsimp only
  repeat' first
    | with_reducible assumption | with_reducible refine withAligner_kept _ _ ?_
    | with_reducible refine substitute_kept _ ?_ | with_reducible refine cutTest_kept _ ?_
    | with_reducible refine startLate_kept _ ?_ | split

theorem sealStepExpires_kept (b : Nat) {s t : State} (hk : Kept s t) : Kept s (sealStepExpires b t) := by
  unfold sealStepExpires
  repeat' first
    | with_reducible assumption | with_reducible refine sealFail_kept _ _ ?_ | split

theorem conditionExpires_kept (b : Nat) {s t : State} (hk : Kept s t) : Kept s (conditionExpires b t) := by
  unfold conditionExpires
  repeat' first
    | with_reducible assumption | with_reducible refine sealDone_kept _ _ ?_ | split

theorem coolExpires_kept (b : Nat) {s t : State} (hk : Kept s t) : Kept s (coolExpires b t) := by
  unfold coolExpires
  repeat' first
    | with_reducible assumption | with_reducible refine enterUnlock_kept _ ?_ | split

theorem unsealStepExpires_kept (b : Nat) {s t : State} (hk : Kept s t) : Kept s (unsealStepExpires b t) := by
  unfold unsealStepExpires
  repeat' first
    | with_reducible assumption | with_reducible refine unsealFail_kept _ _ ?_ | split

theorem freshAligner_kept (b : Nat) {s t : State} (hk : Kept s t) : Kept s (freshAligner b t) := by
  unfold freshAligner
  repeat' first
    | with_reducible assumption | with_reducible refine startLate_kept _ ?_
    | with_reducible refine withAligner_kept _ _ ?_

theorem leaveRound_kept (a : Nat) {s t : State} (hk : Kept s t) : Kept s (leaveRound a t) :=
  hk.same rfl rfl rfl rfl rfl rfl rfl rfl rfl rfl rfl rfl rfl

theorem bind_kept (b a serial : Nat) {s t : State} (hk : Kept s t) : Kept s (bind b a serial t) := by
  unfold bind
  try dsimp only
  repeat' first
    | with_reducible assumption | with_reducible refine dispatchIf_kept _ ?_ | with_reducible refine leaveAbsent_kept _ ?_
    | with_reducible refine standing_kept _ ?_ | with_reducible refine freshAligner_kept _ ?_
    | with_reducible refine leaveRound_kept _ ?_ | with_reducible refine Kept.writePlain ?_ rfl

theorem probeMatch_kept (b : Nat) {s t : State} (hk : Kept s t) : Kept s (probeMatch b t) := by
  unfold probeMatch
  repeat' first
    | with_reducible assumption | with_reducible refine dispatch_kept ?_ | with_reducible refine startLate_kept _ ?_
    | with_reducible refine withAligner_kept _ _ ?_ | split

theorem probeMismatch_kept (b serial : Nat) {s t : State} (hk : Kept s t) : Kept s (probeMismatch b serial t) := by
  unfold probeMismatch
  try dsimp only
  repeat' first
    | with_reducible assumption | with_reducible refine dispatchIf_kept _ ?_ | with_reducible refine withAligner_kept _ _ ?_

theorem probeSilent_kept (b : Nat) {s t : State} (hk : Kept s t) : Kept s (probeSilent b t) := by
  unfold probeSilent
  try dsimp only
  repeat' first
    | with_reducible assumption | with_reducible refine dispatchIf_kept _ ?_ | with_reducible refine withAligner_kept _ _ ?_

theorem huntOn_kept (h : Hunt) {s t : State} (hk : Kept s t) : Kept s (huntOn h t) := by
  unfold huntOn
  repeat' first
    | with_reducible assumption | with_reducible refine raise_kept _ ?_ | split
    | exact hk.same rfl rfl rfl rfl rfl rfl rfl rfl rfl rfl rfl rfl rfl

theorem lineFree_kept {s t : State} (hk : Kept s t) : Kept s (lineFree t) := by
  unfold lineFree
  repeat' first
    | with_reducible assumption | split | exact hk.same rfl rfl rfl rfl rfl rfl rfl rfl rfl rfl rfl rfl rfl

theorem probeOutcome_kept (x : Hunt) (a : Nat) (answer : Option Nat) {s t : State} (hk : Kept s t) :
    Kept s (probeOutcome x a answer t).1 := by
  unfold probeOutcome
  dsimp only
  repeat' first
    | with_reducible assumption
    | with_reducible refine probeMatch_kept _ ?_
    | with_reducible refine probeMismatch_kept _ _ ?_
    | with_reducible refine probeSilent_kept _ ?_
    | with_reducible refine bind_kept _ _ _ ?_
    | split

theorem probeEnds_kept (a : Nat) (answer : Option Nat) {s t : State} (hk : Kept s t) : Kept s (probeEnds a answer t) := by
  unfold probeEnds
  split
  · exact lineFree_kept hk
  · exact huntOn_kept _ (probeOutcome_kept _ _ _ (lineFree_kept hk))

theorem startHunt_kept {s t : State} (hk : Kept s t) : Kept s (startHunt t) := by
  unfold startHunt
  try dsimp only
  repeat' first
    | with_reducible assumption | split | exact hk.same rfl rfl rfl rfl rfl rfl rfl rfl rfl rfl rfl rfl rfl

theorem reportArrives_kept (r : Report) {s t : State} (hk : Kept s t) : Kept s (reportArrives r t) := by
  unfold reportArrives
  repeat' first
    | with_reducible assumption | with_reducible refine lineFree_kept ?_
    | with_reducible refine takeReport_kept _ _ ?_ | split

theorem idleArrives_kept (a : Nat) {s t : State} (hk : Kept s t) : Kept s (idleArrives a t) := by
  unfold idleArrives
  repeat' first
    | with_reducible assumption | with_reducible refine lineFree_kept ?_ | split

theorem pollSilent_kept {s t : State} (hk : Kept s t) : Kept s (pollSilent t) := by
  unfold pollSilent
  repeat' first
    | with_reducible assumption | with_reducible refine lineFree_kept ?_ | split

theorem identityArrives_kept (a serial : Nat) {s t : State} (hk : Kept s t) : Kept s (identityArrives a serial t) := by
  unfold identityArrives
  repeat' first
    | with_reducible assumption | with_reducible refine probeEnds_kept _ _ ?_ | split

theorem probeWindowCloses_kept {s t : State} (hk : Kept s t) : Kept s (probeWindowCloses t) := by
  unfold probeWindowCloses
  repeat' first
    | with_reducible assumption | with_reducible refine probeEnds_kept _ _ ?_ | split

theorem sendStation_kept (r : StationRecord) {s t : State} (hk : Kept s t) : Kept s (sendStation r t) := by
  unfold sendStation
  repeat' first
    | with_reducible assumption | with_reducible refine emit_kept _ ?_

theorem pollNext_kept {s t : State} (hk : Kept s t) : Kept s (pollNext t) := by
  unfold pollNext
  try dsimp only
  repeat' first
    | with_reducible assumption | with_reducible refine sendStation_kept _ ?_ | split
    | exact hk.same rfl rfl rfl rfl rfl rfl rfl rfl rfl rfl rfl rfl rfl

theorem pollCommand_kept {s t : State} (hk : Kept s t) : Kept s (pollCommand t) := by
  unfold pollCommand
  repeat' first
    | with_reducible assumption | with_reducible refine pollNext_kept ?_ | split
    | exact hk.same rfl rfl rfl rfl rfl rfl rfl rfl rfl rfl rfl rfl rfl

theorem flush_kept {s t : State} (hk : Kept s t) : Kept s (flush t) := by
  unfold flush
  repeat' first
    | with_reducible assumption | with_reducible refine Kept.foldl _ _ (fun _ _ _ => ?_) ?_
    | with_reducible refine sendStation_kept _ ?_ | split | exact hk.same rfl rfl rfl rfl rfl rfl rfl rfl rfl rfl rfl rfl rfl

theorem probeNext_kept {s t : State} (hk : Kept s t) : Kept s (probeNext t) := by
  unfold probeNext
  repeat' first
    | with_reducible assumption | with_reducible refine sendStation_kept _ ?_ | split
    | exact hk.same rfl rfl rfl rfl rfl rfl rfl rfl rfl rfl rfl rfl rfl

theorem settle_kept {s t : State} (hk : Kept s t) : Kept s (settle t) := by
  unfold settle
  try dsimp only
  repeat' first
    | with_reducible assumption | with_reducible refine flush_kept ?_ | with_reducible refine probeNext_kept ?_
    | with_reducible refine pollNext_kept ?_ | split

theorem huntRequest_kept {s t : State} (hk : Kept s t) : Kept s (huntRequest t).1 := by
  unfold huntRequest
  try dsimp only
  repeat' first
    | with_reducible assumption | with_reducible refine startHunt_kept ?_ | split

theorem stationAccept_kept (b : Nat) {s t : State} (hk : Kept s t) : Kept s (stationAccept b t).1 := by
  unfold stationAccept
  try dsimp only
  repeat' first
    | with_reducible assumption | with_reducible refine dispatch_kept ?_ | with_reducible refine standing_kept _ ?_
    | with_reducible refine freshAligner_kept _ ?_ | with_reducible refine Kept.writePlain ?_ rfl | split

theorem leaveStation_kept (b : Nat) {s t : State} (hk : Kept s t) : Kept s (leaveStation b t) := by
  unfold leaveStation
  split
  · exact hk
  · exact hk.same rfl rfl rfl rfl rfl rfl rfl rfl rfl rfl rfl rfl rfl

theorem stationUnbind_kept (b : Nat) {s t : State} (hk : Kept s t) : Kept s (stationUnbind b t).1 := by
  unfold stationUnbind
  try dsimp only
  repeat' first
    | with_reducible assumption | with_reducible refine dispatchIf_kept _ ?_ | with_reducible refine setBayState_kept _ _ ?_
    | with_reducible refine withAligner_kept _ _ ?_ | with_reducible refine Kept.writePlain ?_ rfl
    | with_reducible refine leaveStation_kept _ ?_ | split

theorem clearCounters_kept (b : Nat) {s t : State} (hk : Kept s t) : Kept s (clearCounters b t) := by
  unfold clearCounters
  repeat' first
    | with_reducible assumption | with_reducible refine withAligner_kept _ _ ?_

theorem restartAligner_kept (b : Nat) {s t : State} (hk : Kept s t) : Kept s (restartAligner b t) := by
  unfold restartAligner
  repeat' first
    | with_reducible assumption | with_reducible refine withAligner_kept _ _ ?_
    | with_reducible refine dispatch_kept ?_ | with_reducible refine freshAligner_kept _ ?_ | split

/-! ### Classes and lots (Recipe.lean) -/

theorem classSet_kept (n : Nat) (r : ClassRecord) {s t : State} (hk : Kept s t) : Kept s (classSet n r t).1 := by
  unfold classSet
  try dsimp only
  repeat' first
    | with_reducible assumption | with_reducible refine Kept.writePlain ?_ rfl | split

theorem queryClass_kept (n : Nat) {s t : State} (hk : Kept s t) : Kept s (queryClass n t).1 := by
  unfold queryClass
  try dsimp only
  repeat' first
    | with_reducible assumption | split

theorem lowerRank_kept (k i : Nat) {s t : State} (hk : Kept s t) : Kept s (lowerRank k i t) := by
  unfold lowerRank
  repeat' first
    | with_reducible assumption | with_reducible refine Kept.writePlain ?_ rfl | split

theorem closeGap_kept (k : Option Nat) {s t : State} (hk : Kept s t) : Kept s (closeGap k t) := by
  unfold closeGap
  repeat' first
    | with_reducible assumption | with_reducible refine Kept.foldl _ _ (fun _ _ _ => ?_) ?_
    | with_reducible refine lowerRank_kept _ _ ?_ | split

theorem placeLot_kept (i n u b : Nat) {s t : State} (hk : Kept s t) : Kept s (placeLot i n u b t).1 := by
  unfold placeLot
  try dsimp only
  repeat' first
    | with_reducible assumption | with_reducible refine closeGap_kept _ ?_
    | with_reducible refine Kept.writePlain ?_ rfl

theorem lotDefine_kept (n u b : Nat) {s t : State} (hk : Kept s t) : Kept s (lotDefine n u b t).1 := by
  unfold lotDefine
  try dsimp only
  repeat' first
    | with_reducible assumption | with_reducible refine placeLot_kept _ _ _ _ ?_ | split

theorem lotClose_kept (n : Nat) {s t : State} (hk : Kept s t) : Kept s (lotClose n t).1 := by
  unfold lotClose
  try dsimp only
  repeat' first
    | with_reducible assumption | with_reducible refine Kept.writePlain ?_ rfl | split

theorem queryLot_kept (n : Nat) {s t : State} (hk : Kept s t) : Kept s (queryLot n t).1 := by
  unfold queryLot
  try dsimp only
  repeat' first
    | with_reducible assumption | split

/-! ### Removal (Removal.lean) -/

theorem removeCast_kept (p : Nat) (c : CastPart) {s t : State} (hk : Kept s t) : Kept s (removeCast p c t) := by
  unfold removeCast
  repeat' first
    | with_reducible assumption | with_reducible refine dispatch_kept ?_ | with_reducible refine bayLost_kept _ ?_ | with_reducible refine castGone_kept _ _ ?_
    | with_reducible refine Kept.writeStatus ?_ rfl

theorem castTake_kept (ref : CastRef) (force : Bool) {s t : State} (hk : Kept s t) : Kept s (castTake ref force t).1 := by
  unfold castTake
  try dsimp only
  repeat' first
    | with_reducible assumption | with_reducible refine removeCast_kept _ _ ?_
    | with_reducible refine release_kept _ _ ?_ | split

theorem castDiscard_kept (ref : CastRef) {s t : State} (hk : Kept s t) : Kept s (castDiscard ref t).1 := by
  unfold castDiscard
  try dsimp only
  repeat' first
    | with_reducible assumption | with_reducible refine removeCast_kept _ _ ?_ | split

theorem castAssess_kept (id : Nat) {s t : State} (hk : Kept s t) : Kept s (castAssess id t).1 := by
  unfold castAssess
  try dsimp only
  repeat' first
    | with_reducible assumption | with_reducible refine updateCast_kept _ _ ?_ ?_
    | with_reducible refine evaluateAt_kept _ ?_ | exact fun _ hc => hc | split

/-! ### Queries and the machine (Queries.lean) -/

theorem queryQueue_kept {s t : State} (hk : Kept s t) : Kept s (queryQueue t).1 := by
  unfold queryQueue
  try dsimp only
  repeat' first
    | with_reducible assumption

theorem queryMixer_kept (code : Nat) {s t : State} (hk : Kept s t) : Kept s (queryMixer code t).1 := by
  refine namingMixer_kept code _ hk fun m => ?_
  repeat' first
    | with_reducible assumption

theorem queryBay_kept (b : Nat) (clear : Bool) {s t : State} (hk : Kept s t) : Kept s (queryBay b clear t).1 := by
  unfold queryBay
  try dsimp only
  repeat' first
    | with_reducible assumption | with_reducible refine clearCounters_kept _ ?_ | split

theorem queryCast_kept (ref : CastRef) {s t : State} (hk : Kept s t) : Kept s (queryCast ref t).1 := by
  unfold queryCast
  try dsimp only
  repeat' first
    | with_reducible assumption | split

theorem clearOverrun_kept {s t : State} (hk : Kept s t) : Kept s (clearOverrun t) := by
  unfold clearOverrun
  repeat' first
    | with_reducible assumption | split | exact hk.same rfl rfl rfl rfl rfl rfl rfl rfl rfl rfl rfl rfl rfl

theorem queryStatus_kept (start : Nat) {s t : State} (hk : Kept s t) : Kept s (queryStatus start t).1 := by
  unfold queryStatus
  try dsimp only
  repeat' first
    | with_reducible assumption | with_reducible refine clearOverrun_kept ?_ | split

theorem restart_kept {s t : State} (hk : Kept s t) : Kept s (restart t).1 := by
  unfold restart
  split
  · refine startHunt_kept (Kept.foldl _ _ (fun b _ hu => restartAligner_kept b hu) (clearOverrun_kept ?_))
    exact hk.trans ⟨rfl, rfl, rfl, rfl, rfl, rfl, fun i =>
      ⟨Nat.zero_le _, i.2.1, Nat.zero_le _, i.2.2.2.1, i.2.2.2.2.1, i.2.2.2.2.2.1,
        Nat.le_trans (Nat.add_le_add_left (Nat.zero_le _) _) i.2.2.2.2.2.2.1, fun m => by cases m <;> rfl⟩⟩
  · exact hk

end Sys2Proof.Machine
end

