-- ==== Sys2Proof/Laws/Calm.lean ====
section
/-! SUPPORT. What the entry into a stage, a hold, a release and the Dispatcher leave alone: every cast part, and a batch's ID, dose-deviation flag and live cast count. One lemma for each operation, in the form a proof applies to the operation's result. -/

namespace Sys2Proof.Machine

/-- Between two states every cast part is as it was, and the batch of a slot keeps its ID, its dose-deviation flag and its
live cast count; `fin` says that batches may have been freed meanwhile, so that only one with live casts is sure to stay. -/
structure Calm (slot : Nat) (fin : Bool) (s t : State) : Prop where
  casts : ∀ p, t.castAt p = s.castAt p
  batch : ∀ x, s.batch slot = some x → (fin = true → x.live ≠ 0) →
    ∃ y, t.batch slot = some y ∧ y.id = x.id ∧ y.doseDeviation = x.doseDeviation ∧ y.live = x.live

variable {slot : Nat} {fin : Bool}

namespace Calm

theorem refl (s : State) : Calm slot fin s s := ⟨fun _ => rfl, fun x hx _ => ⟨x, hx, rfl, rfl, rfl⟩⟩

/-- Where nothing is freed, what holds with freeing holds. -/
theorem weaken {s t : State} (h : Calm slot false s t) : Calm slot fin s t := ⟨h.casts, fun x hx _ => h.batch x hx (by simp)⟩

/-- An update that leaves the entries and the batches. -/
theorem same {s t u : State} (h : Calm slot fin s t) (h1 : u.store.entries = t.store.entries)
    (h2 : u.store.batches = t.store.batches) : Calm slot fin s u := by
  have hc : ∀ p, u.castAt p = t.castAt p := fun p => by simp only [State.castAt, State.entry, h1]
  have hb : u.batch slot = t.batch slot := by simp only [State.batch, h2]
  exact ⟨fun p => (hc p).trans (h.casts p), fun x hx hl => by rw [hb]; exact h.batch x hx hl⟩

/-- A list of operations. -/
theorem foldl {α : Type} {s t : State} (l : List α) (f : State → α → State)
    (hf : ∀ x u, Calm slot fin s u → Calm slot fin s (f u x)) (h : Calm slot fin s t) : Calm slot fin s (l.foldl f t) := by
  induction l generalizing t with
  | nil => exact h
  | cons x l ih => exact ih (hf x t h)

/-- The write of a record that is neither an entry nor a batch. -/
theorem writeOther {s t : State} {r : Retained} (h : Calm slot fin s t) (h1 : (t.store.put r).entries = t.store.entries)
    (h2 : (t.store.put r).batches = t.store.batches) : Calm slot fin s (Machine.write r t) := h.same h1 h2

/-- The write of an entry that held no cast and holds none. -/
theorem writeStatus {s t : State} {p : Nat} {e : Entry} (h : Calm slot fin s t) (hp : t.castAt p = none)
    (he : e.cast? = none) : Calm slot fin s (writeEntry p e t) := by
  refine ⟨fun q => ?_, h.batch⟩
  rw [← h.casts q]
  by_cases hq : q = p
  · subst hq
    rw [hp]
    by_cases hr : 1 ≤ q ∧ q ≤ 288
    · show (at1 (put1 t.store.entries q e) q .nonexistent).cast? = none
      rw [at1_put1_same _ _ _ _ hr]
      exact he
    · show (at1 (put1 t.store.entries q e) q .nonexistent).cast? = none
      cases q with
      | zero => rfl
      | succ k => simp [at1, put1, show ¬ k < 288 by omega, Entry.cast?]
  · show (at1 (put1 t.store.entries p e) q .nonexistent).cast? = _
    rw [at1_put1_other _ _ _ _ _ hq]
    rfl

/-- A record takes a free slot. -/
theorem writeNew {s t : State} (k : Nat) (r : Option BatchRecord) (h : Calm slot fin s t) (hk : t.batch k = none) :
    Calm slot fin s (writeBatch k r t) := by
  refine ⟨h.casts, fun x hx hl => ?_⟩
  obtain ⟨y, hy, hrest⟩ := h.batch x hx hl
  have hne : slot ≠ k := by
    rintro rfl
    rw [hk] at hy
    cases hy
  exact ⟨y, (at1_put1_other _ _ _ _ _ hne).trans hy, hrest⟩

/-- A record is written again, with the same ID, flag and count. -/
theorem rewrite {s t : State} (k : Nat) (r r' : BatchRecord) (h : Calm slot fin s t) (hr : t.batch k = some r)
    (he : r'.id = r.id ∧ r'.doseDeviation = r.doseDeviation ∧ r'.live = r.live) :
    Calm slot fin s (writeBatch k (some r') t) := by
  refine ⟨h.casts, fun x hx hl => ?_⟩
  obtain ⟨y, hy, h1, h2, h3⟩ := h.batch x hx hl
  by_cases hk : slot = k
  · subst hk
    have hb : 1 ≤ slot ∧ slot ≤ 32 := by
      rcases Nat.eq_zero_or_pos slot with h0 | h0
      · subst h0; simp [State.batch, at1] at hr
      · refine ⟨h0, Nat.le_of_not_lt fun hgt => ?_⟩
        obtain ⟨k, rfl⟩ := Nat.exists_eq_succ_of_ne_zero (Nat.ne_of_gt h0)
        simp only [State.batch, at1] at hr
        rw [Vector.getElem?_eq_none (by omega)] at hr
        cases hr
    rw [hy] at hr
    cases hr
    exact ⟨r', at1_put1_same _ _ _ _ hb, he.1.trans h1, he.2.1.trans h2, he.2.2.trans h3⟩
  · exact ⟨y, (at1_put1_other _ _ _ _ _ hk).trans hy, h1, h2, h3⟩

end Calm

/-! ### Named updates, the links, the bays -/

theorem withSeq_calm (m : Mixer) (f : Sequencer → Sequencer) {s t : State} (h : Calm slot fin s t) : Calm slot fin s (withSeq m f t) :=
  h.same rfl rfl

theorem withBay_calm (b : Nat) (f : Bay → Bay) {s t : State} (h : Calm slot fin s t) : Calm slot fin s (withBay b f t) :=
  h.same rfl rfl

theorem emit_calm (o : Output) {s t : State} (h : Calm slot fin s t) : Calm slot fin s (emit o t) :=
  h.same rfl rfl

theorem writeSettings_calm (b : Nat) (r : BaySettings) {s t : State} (h : Calm slot fin s t) : Calm slot fin s (writeSettings b r t) :=
  h.writeOther rfl rfl

theorem writeMarker_calm (m : Mixer) (r : Option Marker) {s t : State} (h : Calm slot fin s t) : Calm slot fin s (writeMarker m r t) :=
  h.writeOther rfl rfl

theorem beginFrame_calm (f : Frame) {s t : State} (h : Calm slot fin s t) : Calm slot fin s (beginFrame f t) :=
  h.same rfl rfl

theorem kick_calm {s t : State} (h : Calm slot fin s t) : Calm slot fin s (kick t) := by
  unfold kick
  repeat' split
  all_goals exact h.same rfl rfl

theorem queueNotice_calm (n : Notice) {s t : State} (h : Calm slot fin s t) : Calm slot fin s (queueNotice n t) := by
  unfold queueNotice
  split <;> exact h.same rfl rfl

theorem raise_calm (n : Notice) {s t : State} (h : Calm slot fin s t) : Calm slot fin s (raise n t) := by
  unfold raise
  split
  · exact h.same rfl rfl
  · exact kick_calm (queueNotice_calm n h)

theorem actuate_calm (b : Nat) (a : Action) {s t : State} (h : Calm slot fin s t) : Calm slot fin s (actuate b a t) := by
  unfold actuate
  split
  · exact h
  · exact h
  · exact h.same rfl rfl

theorem setConditioning_calm (b : Nat) (on : Bool) {s t : State} (h : Calm slot fin s t) : Calm slot fin s (setConditioning b on t) := by
  unfold setConditioning
  split
  · exact h
  · exact withBay_calm _ _ (actuate_calm _ _ h)

theorem setBayState_calm (b : Nat) (st : BayState) {s t : State} (hk : Calm slot fin s t) : Calm slot fin s (setBayState b st t) := by
  unfold setBayState
  repeat' first
    | with_reducible assumption | with_reducible refine writeSettings_calm _ _ ?_

theorem clearStep_calm (b : Nat) {s t : State} (hk : Calm slot fin s t) : Calm slot fin s (clearStep b t) := by
  unfold clearStep
  repeat' first
    | with_reducible assumption | with_reducible refine withBay_calm _ _ ?_

theorem takeStep_calm (b : Nat) (st : SeqStep) (seconds : Nat) {s t : State} (hk : Calm slot fin s t) : Calm slot fin s (takeStep b st seconds t) := by
  unfold takeStep
  repeat' first
    | with_reducible assumption | with_reducible refine withBay_calm _ _ ?_

theorem enterCondition_calm (b : Nat) {s t : State} (hk : Calm slot fin s t) : Calm slot fin s (enterCondition b t) := by
  unfold enterCondition
  try dsimp only
  repeat' first
    | with_reducible assumption | with_reducible refine setConditioning_calm _ _ ?_
    | with_reducible refine withBay_calm _ _ ?_ | with_reducible refine takeStep_calm _ _ _ ?_ | split

theorem enterLock_calm (b : Nat) {s t : State} (hk : Calm slot fin s t) : Calm slot fin s (enterLock b t) := by
  unfold enterLock
  try dsimp only
  repeat' first
    | with_reducible assumption | with_reducible refine takeStep_calm _ _ _ ?_
    | with_reducible refine actuate_calm _ _ ?_ | with_reducible refine enterCondition_calm _ ?_ | split

theorem enterSealing_calm (b : Nat) {s t : State} (hk : Calm slot fin s t) : Calm slot fin s (enterSealing b t) := by
  unfold enterSealing
  try dsimp only
  repeat' first
    | with_reducible assumption | with_reducible refine takeStep_calm _ _ _ ?_
    | with_reducible refine actuate_calm _ _ ?_ | with_reducible refine setBayState_calm _ _ ?_
    | with_reducible refine enterLock_calm _ ?_ | split

theorem sealRequest_calm (b : Nat) {s t : State} (hk : Calm slot fin s t) : Calm slot fin s (sealRequest b t) := by
  unfold sealRequest
  repeat' first
    | with_reducible assumption | with_reducible refine setBayState_calm _ _ ?_
    | with_reducible refine enterSealing_calm _ ?_ | split

theorem autoSealTest_calm (b : Nat) {s t : State} (hk : Calm slot fin s t) : Calm slot fin s (autoSealTest b t) := by
  unfold autoSealTest
  repeat' first
    | with_reducible assumption | with_reducible refine sealRequest_calm _ ?_ | split

theorem enterFilling_calm (b : Nat) {s t : State} (hk : Calm slot fin s t) : Calm slot fin s (enterFilling b t) := by
  unfold enterFilling
  repeat' first
    | with_reducible assumption | with_reducible refine dispatch_calm ?_ | with_reducible refine actuate_calm _ _ ?_
    | with_reducible refine setBayState_calm _ _ ?_

theorem withStation_calm (m : Mixer) (f : PourStation → PourStation) {s t : State} (h : Calm slot fin s t) :
    Calm slot fin s (withStation m f t) := h.same rfl rfl

theorem updateBatch_calm (k : Nat) (f : BatchRecord → BatchRecord)
    (hf : ∀ r, (f r).id = r.id ∧ (f r).doseDeviation = r.doseDeviation ∧ (f r).live = r.live) {s t : State}
    (h : Calm slot fin s t) : Calm slot fin s (updateBatch k f t) := by
  unfold updateBatch
  split
  · exact h
  · rename_i r hr
    exact h.rewrite k r _ hr (hf r)

theorem updateOwnBatch_calm (m : Mixer) (f : BatchRecord → BatchRecord)
    (hf : ∀ r, (f r).id = r.id ∧ (f r).doseDeviation = r.doseDeviation ∧ (f r).live = r.live) {s t : State}
    (hk : Calm slot fin s t) : Calm slot fin s (updateOwnBatch m f t) := by
  unfold updateOwnBatch
  split
  · exact hk
  · exact updateBatch_calm _ _ hf hk

theorem writeActual_calm (m : Mixer) (c : Component) (v : Nat) {s t : State} (hk : Calm slot fin s t) :
    Calm slot fin s (writeActual m c v t) := by
  unfold writeActual
  refine updateOwnBatch_calm m _ ?_ hk
  exact fun _ => ⟨rfl, rfl, rfl⟩

theorem setDrive_calm (m : Mixer) (d : Drive) {s t : State} (hk : Calm slot fin s t) : Calm slot fin s (setDrive m d t) := by
  unfold setDrive
  repeat' first
    | with_reducible assumption | with_reducible refine withSeq_calm _ _ ?_ | with_reducible refine emit_calm _ ?_
    | split

theorem deliver_calm (m : Mixer) (ch : Channel) (amount : Nat) {s t : State} (hk : Calm slot fin s t) : Calm slot fin s (deliver m ch amount t) := by
  unfold deliver
  repeat' first
    | with_reducible assumption | with_reducible refine withSeq_calm _ _ ?_ | with_reducible refine emit_calm _ ?_

theorem markStage_calm (m : Mixer) (st : Stage) {s t : State} (hk : Calm slot fin s t) : Calm slot fin s (markStage m st t) := by
  unfold markStage
  repeat' first
    | with_reducible assumption | with_reducible refine writeMarker_calm _ _ ?_ | split

theorem takeState_calm (m : Mixer) (st : MixerState) (stage : Option Stage) {s t : State} (hk : Calm slot fin s t) : Calm slot fin s (takeState m st stage t) := by
  unfold takeState
  repeat' first
    | with_reducible assumption | with_reducible refine withSeq_calm _ _ ?_

theorem beginComponent_calm (m : Mixer) (c : Component) {s t : State} (hk : Calm slot fin s t) : Calm slot fin s (beginComponent m c t) := by
  unfold beginComponent
  repeat' first
    | with_reducible assumption | with_reducible refine withSeq_calm _ _ ?_

theorem enterAsh_calm (m : Mixer) {s t : State} (hk : Calm slot fin s t) : Calm slot fin s (enterAsh m t) := by
  unfold enterAsh
  repeat' first
    | with_reducible assumption | with_reducible refine deliver_calm _ _ _ ?_
    | with_reducible refine setDrive_calm _ _ ?_ | with_reducible refine beginComponent_calm _ _ ?_
    | with_reducible refine markStage_calm _ _ ?_ | with_reducible refine takeState_calm _ _ _ ?_

theorem giveBatch_calm (m : Mixer) (k id : Nat) {s t : State} (hk : Calm slot fin s t) : Calm slot fin s (giveBatch m k id t) := by
  unfold giveBatch
  repeat' first
    | with_reducible assumption | with_reducible refine enterAsh_calm _ ?_ | with_reducible refine withSeq_calm _ _ ?_

theorem bayBooked_calm (b : Nat) {s t : State} (hk : Calm slot fin s t) : Calm slot fin s (bayBooked b t) := by
  unfold bayBooked
  repeat' first
    | with_reducible assumption | with_reducible refine autoSealTest_calm _ ?_
    | with_reducible refine enterFilling_calm _ ?_ | split

/-- The positions of a reservation hold no cast, before and after. -/
theorem reserve_calm (k id : Nat) (ps : List Nat) {s t : State} (h : Calm slot fin s t)
    (hp : ∀ p ∈ ps, t.castAt p = none) : Calm slot fin s (ps.foldl (fun u p => writeEntry p (.reserved k id) u) t) := by
  induction ps generalizing t with
  | nil => exact h
  | cons p ps ih =>
    have hw : Calm slot fin t (writeEntry p (.reserved k id) t) :=
      (Calm.refl t).writeStatus (hp p (List.mem_cons_self ..)) rfl
    exact ih (h.writeStatus (hp p (List.mem_cons_self ..)) rfl) fun q hq =>
      (hw.casts q).trans (hp q (List.mem_cons_of_mem _ hq))

/-- A start takes a free slot, and positions that hold no cast. -/
theorem startOrder_calm (o : Order) (m : Mixer) (k : Nat) (ps : List Nat) {s t : State} (hk : Calm slot fin s t)
    (hb : t.batch k = none) (hp : ∀ p ∈ ps, t.castAt p = none) : Calm slot fin s (startOrder o m k ps t) := by
  unfold startOrder
  refine raise_calm _ (giveBatch_calm _ _ _ (Calm.foldl _ _ (fun b _ hu => bayBooked_calm b hu) ?_))
  have hw : Calm slot fin s (writeBatch k (some (firstRecord o m (nextBatchId t) ps t.clock))
      (write (.batchCounter (nextBatchId t)) { t with orders := t.orders.filter fun x => decide (x.number ≠ o.number) })) :=
    Calm.writeNew k _ (Calm.writeOther (hk.same rfl rfl) rfl rfl) hb
  exact reserve_calm k _ ps hw hp

theorem firstStartable_some (t : State) (l : List Order) (o : Order) (m : Mixer) (k : Nat) (ps : List Nat)
    (h : firstStartable t l = some (o, m, k, ps)) : startable o t = some (m, k, ps) := by
  induction l with
  | nil => cases h
  | cons x l ih =>
    unfold firstStartable at h
    split at h
    · rename_i hx
      cases h
      exact hx
    · exact ih h

/-- What a startable order is given: a free slot, and its walk. -/
theorem startable_some {o : Order} {t : State} {m : Mixer} {k : Nat} {ps : List Nat} (h : startable o t = some (m, k, ps)) :
    freeSlotNumber t = some k ∧ ps = walk o t := by
  unfold startable at h
  split at h
  · rename_i hk
    split at h
    · cases h
      exact ⟨hk, rfl⟩
    · cases h
  · cases h

theorem startable_slot {o : Order} {t : State} {m : Mixer} {k : Nat} {ps : List Nat} (h : startable o t = some (m, k, ps)) :
    t.batch k = none := by
  have hf := List.find?_some (startable_some h).1
  simpa using hf

theorem startable_positions {o : Order} {t : State} {m : Mixer} {k : Nat} {ps : List Nat}
    (h : startable o t = some (m, k, ps)) : ∀ p ∈ ps, t.castAt p = none := by
  intro p hp
  rw [(startable_some h).2] at hp
  obtain ⟨b, _, hb⟩ := List.mem_flatMap.mp (List.mem_of_mem_take hp)
  have he : (t.entry p).isFree = true := (List.mem_filter.mp hb).2
  unfold State.castAt
  cases hx : t.entry p <;> first | rfl | (rw [hx] at he; cases he)

theorem scans_calm (n : Nat) {s t : State} (hk : Calm slot fin s t) : Calm slot fin s (scans n t) := by
  induction n generalizing t with
  | zero => exact hk
  | succ n ih =>
    unfold scans
    split
    · exact hk
    · rename_i o m k ps h
      have hs := firstStartable_some _ _ _ _ _ _ h
      exact ih (startOrder_calm _ _ _ _ hk (startable_slot hs) (startable_positions hs))

theorem dispatch_calm {s t : State} (hk : Calm slot fin s t) : Calm slot fin s (dispatch t) := scans_calm _ hk

theorem enterEmpty_calm (b : Nat) {s t : State} (hk : Calm slot fin s t) : Calm slot fin s (enterEmpty b t) := by
  unfold enterEmpty
  repeat' first
    | with_reducible assumption | with_reducible refine dispatch_calm ?_ | with_reducible refine raise_calm _ ?_
    | with_reducible refine actuate_calm _ _ ?_ | with_reducible refine setBayState_calm _ _ ?_

theorem emptyTest_calm (b : Nat) {s t : State} (hk : Calm slot fin s t) : Calm slot fin s (emptyTest b t) := by
  unfold emptyTest
  repeat' first
    | with_reducible assumption | with_reducible refine enterEmpty_calm _ ?_ | split

theorem sealPendingTest_calm (b : Nat) {s t : State} (hk : Calm slot fin s t) : Calm slot fin s (sealPendingTest b t) := by
  unfold sealPendingTest
  repeat' first
    | with_reducible assumption | with_reducible refine enterSealing_calm _ ?_
    | with_reducible refine enterEmpty_calm _ ?_ | split

theorem bayLost_calm (b : Nat) {s t : State} (hk : Calm slot fin s t) : Calm slot fin s (bayLost b t) := by
  unfold bayLost
  repeat' first
    | with_reducible assumption | with_reducible refine sealPendingTest_calm _ ?_
    | with_reducible refine emptyTest_calm _ ?_

/-- A slot that is freed is not that of a batch with live casts. -/
theorem freeSlot_calm (k : Nat) {s t : State} (hk : Calm slot true s t) (hf : ∀ r, t.batch k = some r → r.live = 0) :
    Calm slot true s (freeSlot k t) := by
  refine dispatch_calm ⟨hk.casts, fun x hx hl => ?_⟩
  obtain ⟨y, hy, h1, h2, h3⟩ := hk.batch x hx hl
  have hne : slot ≠ k := by
    rintro rfl
    exact absurd (h3 ▸ hf y hy) (hl rfl)
  exact ⟨y, (at1_put1_other _ _ _ _ _ hne).trans hy, h1, h2, h3⟩

theorem checkSlot_calm (k : Nat) {s t : State} (hk : Calm slot true s t) : Calm slot true s (checkSlot k t) := by
  unfold checkSlot
  split
  · exact hk
  · rename_i r hr
    split
    · rename_i h
      exact freeSlot_calm k hk fun x hx => by rw [hr] at hx; cases hx; exact h.2
    · exact hk

theorem releaseAt_calm (k id p : Nat) {s t : State} (hk : Calm slot fin s t) : Calm slot fin s (releaseAt k id p t) := by
  unfold releaseAt
  split
  · rename_i sl i he
    split
    · exact dispatch_calm (bayLost_calm _ (Calm.writeStatus hk (by simp [State.castAt, he, Entry.cast?]) rfl))
    · exact hk
  · exact hk

theorem release_calm (k : Nat) (r : BatchRecord) {s t : State} (hk : Calm slot fin s t) : Calm slot fin s (release k r t) := by
  unfold release
  repeat' first
    | with_reducible assumption | with_reducible refine Calm.foldl _ _ (fun _ _ _ => ?_) ?_
    | with_reducible refine releaseAt_calm _ _ _ ?_

theorem batchEnd_calm (k : Nat) (cause : EndCause) {s t : State} (hk : Calm slot true s t) :
    Calm slot true s (batchEnd k cause t) := by
  unfold batchEnd
  split
  · exact hk
  · rename_i r hr
    exact checkSlot_calm _ (raise_calm _ (release_calm _ _ (Calm.rewrite k r { r with endTime := some t.clock, endCause := some cause } hk hr ⟨rfl, rfl, rfl⟩)))

theorem callMold_calm (m : Mixer) {s t : State} (hk : Calm slot fin s t) : Calm slot fin s (callMold m t) :=
  hk.same rfl rfl

theorem givePlace_calm (m : Mixer) {s t : State} (hk : Calm slot fin s t) : Calm slot fin s (givePlace m t) :=
  hk.same rfl rfl

theorem placeFreed_calm {s t : State} (hk : Calm slot fin s t) : Calm slot fin s (placeFreed t) := by
  unfold placeFreed
  repeat' split
  all_goals exact hk.same rfl rfl

theorem enterSpace_calm (m : Mixer) {s t : State} (hk : Calm slot fin s t) : Calm slot fin s (enterSpace m t) := by
  unfold enterSpace
  split <;> exact hk.same rfl rfl

theorem clearGate_calm (m : Mixer) {s t : State} (hk : Calm slot fin s t) : Calm slot fin s (clearGate m t) := by
  unfold clearGate
  try dsimp only
  repeat' first
    | with_reducible assumption | with_reducible refine emit_calm _ ?_ | split

theorem giveUpPlace_calm (m : Mixer) {s t : State} (hk : Calm slot fin s t) : Calm slot fin s (giveUpPlace m t) := by
  unfold giveUpPlace
  dsimp only
  split
  · exact placeFreed_calm (hk.same rfl rfl)
  · exact hk.same rfl rfl

theorem stopCycle_calm (m : Mixer) {s t : State} (hk : Calm slot fin s t) : Calm slot fin s (stopCycle m t) :=
  giveUpPlace_calm m (Calm.same (clearGate_calm m hk) rfl rfl)

theorem stepWait_calm (m : Mixer) (completed : Stage) (saved : Saved) {s t : State} (hk : Calm slot fin s t) : Calm slot fin s (stepWait m completed saved t) := by
  unfold stepWait
  try dsimp only
  repeat' first
    | with_reducible assumption | with_reducible refine withSeq_calm _ _ ?_ | with_reducible refine raise_calm _ ?_
    | with_reducible refine setDrive_calm _ _ ?_

theorem enterIdle_calm (m : Mixer) {s t : State} (hk : Calm slot fin s t) : Calm slot fin s (enterIdle m t) := by
  unfold enterIdle
  try dsimp only
  repeat' first
    | with_reducible assumption | with_reducible refine withSeq_calm _ _ ?_ | with_reducible refine dispatch_calm ?_
    | with_reducible refine writeMarker_calm _ _ ?_ | with_reducible refine setDrive_calm _ _ ?_
    | with_reducible refine withStation_calm _ _ ?_

theorem enterDischarging_calm (m : Mixer) (cause : Option EndCause) (amount : Nat) {s t : State} (hk : Calm slot fin s t) : Calm slot fin s (enterDischarging m cause amount t) := by
  unfold enterDischarging
  try dsimp only
  repeat' first
    | with_reducible assumption | with_reducible refine withSeq_calm _ _ ?_
    | with_reducible refine stopCycle_calm _ ?_ | with_reducible refine deliver_calm _ _ _ ?_
    | with_reducible refine markStage_calm _ _ ?_ | with_reducible refine setDrive_calm _ _ ?_

theorem finishBatch_calm (m : Mixer) {s t : State} (hk : Calm slot true s t) : Calm slot true s (finishBatch m t) := by
  unfold finishBatch
  try dsimp only
  repeat' first
    | with_reducible assumption | with_reducible refine withSeq_calm _ _ ?_ | with_reducible refine dispatch_calm ?_
    | with_reducible refine batchEnd_calm _ _ ?_ | with_reducible refine enterDischarging_calm _ _ _ ?_
    | with_reducible refine enterIdle_calm _ ?_ | split

theorem pourEnd_calm (m : Mixer) {s t : State} (hk : Calm slot true s t) : Calm slot true s (pourEnd m t) := by
  unfold pourEnd
  repeat' first
    | with_reducible assumption | with_reducible refine stepWait_calm _ _ _ ?_
    | with_reducible refine batchEnd_calm _ _ ?_ | with_reducible refine finishBatch_calm _ ?_ | split

theorem beginCycle_calm (m : Mixer) {s t : State} (hk : Calm slot true s t) : Calm slot true s (beginCycle m t) := by
  unfold beginCycle
  repeat' first
    | with_reducible assumption | with_reducible refine pourEnd_calm _ ?_
    | with_reducible refine withStation_calm _ _ ?_ | with_reducible refine enterSpace_calm _ ?_ | split

theorem enterPour_calm (m : Mixer) {s t : State} (hk : Calm slot true s t) : Calm slot true s (enterPour m t) := by
  unfold enterPour
  try dsimp only
  repeat' first
    | with_reducible assumption | with_reducible refine setDrive_calm _ _ ?_
    | with_reducible refine markStage_calm _ _ ?_ | with_reducible refine takeState_calm _ _ _ ?_
    | with_reducible refine withSeq_calm _ _ ?_ | with_reducible refine pourEnd_calm _ ?_
    | with_reducible refine beginCycle_calm _ ?_ | split

theorem weigh_calm (m : Mixer) {s t : State} (hk : Calm slot fin s t) : Calm slot fin s (weigh m t) := by
  unfold weigh
  try dsimp only
  repeat' first
    | with_reducible assumption | with_reducible refine beginComponent_calm _ _ ?_
    | with_reducible refine deliver_calm _ _ _ ?_ | with_reducible refine emit_calm _ ?_ | split

theorem grant_calm (m : Mixer) (waiting : List Mixer) {s t : State} (hk : Calm slot fin s t) : Calm slot fin s (grant m waiting t) := by
  unfold grant
  repeat' first
    | with_reducible assumption | with_reducible refine weigh_calm _ ?_ | split
    | exact hk.same rfl rfl

theorem requestScale_calm (m : Mixer) {s t : State} (hk : Calm slot fin s t) : Calm slot fin s (requestScale m t) := by
  unfold requestScale
  repeat' first
    | with_reducible assumption | with_reducible refine grant_calm _ _ ?_ | split
    | exact hk.same rfl rfl

theorem releaseGrant_calm {s t : State} (hk : Calm slot fin s t) : Calm slot fin s (releaseGrant t) := by
  unfold releaseGrant
  repeat' first
    | with_reducible assumption | with_reducible refine grant_calm _ _ ?_ | split
    | exact hk.same rfl rfl

theorem leaveScale_calm (m : Mixer) {s t : State} (hk : Calm slot fin s t) : Calm slot fin s (leaveScale m t) := by
  unfold leaveScale
  try dsimp only
  repeat' first
    | with_reducible assumption | with_reducible refine releaseGrant_calm ?_ | with_reducible refine emit_calm _ ?_
    | split | exact hk.same rfl rfl

theorem endDelivery_calm (m : Mixer) {s t : State} (hk : Calm slot fin s t) : Calm slot fin s (endDelivery m t) := by
  unfold endDelivery
  repeat' first
    | with_reducible assumption | with_reducible refine withSeq_calm _ _ ?_

theorem takeReading_calm {s t : State} (hk : Calm slot fin s t) : Calm slot fin s (takeReading t) := by
  unfold takeReading
  repeat' first
    | with_reducible assumption | split | exact hk.same rfl rfl

theorem charge_calm (m : Mixer) (c : Component) (v : Nat) {s t : State} (hk : Calm slot fin s t) : Calm slot fin s (charge m c v t) := by
  unfold charge
  try dsimp only
  repeat' first
    | with_reducible assumption | with_reducible refine writeActual_calm _ _ _ ?_
    | with_reducible refine withSeq_calm _ _ ?_

theorem chargeCement_calm (m : Mixer) (v : Nat) {s t : State} (hk : Calm slot fin s t) : Calm slot fin s (chargeCement m v t) := by
  unfold chargeCement
  try dsimp only
  repeat' first
    | with_reducible assumption | with_reducible refine writeActual_calm _ _ _ ?_
    | with_reducible refine withSeq_calm _ _ ?_

theorem stopDelivery_calm (m : Mixer) {s t : State} (hk : Calm slot fin s t) : Calm slot fin s (stopDelivery m t) := by
  unfold stopDelivery
  try dsimp only
  repeat' first
    | with_reducible assumption | with_reducible refine endDelivery_calm _ ?_ | with_reducible refine emit_calm _ ?_
    | with_reducible refine charge_calm _ _ _ ?_ | with_reducible refine takeReading_calm ?_
    | with_reducible refine chargeCement_calm _ _ ?_ | split

theorem launchHoldAt_calm (m : Mixer) (cause : HoldCause) (named : Option Component) (st : Stage) {s t : State} (hk : Calm slot fin s t) : Calm slot fin s (launchHoldAt m cause named st t) := by
  unfold launchHoldAt
  try dsimp only
  repeat' first
    | with_reducible assumption | with_reducible refine leaveScale_calm _ ?_
    | with_reducible refine stopDelivery_calm _ ?_ | with_reducible refine withSeq_calm _ _ ?_
    | with_reducible refine stopCycle_calm _ ?_ | with_reducible refine setDrive_calm _ _ ?_
    | with_reducible refine raise_calm _ ?_ | split

theorem raiseHold_calm (m : Mixer) (cause : HoldCause) (named : Option Component) {s t : State} (hk : Calm slot fin s t) : Calm slot fin s (raiseHold m cause named t) := by
  unfold raiseHold
  repeat' first
    | with_reducible assumption | with_reducible refine withSeq_calm _ _ ?_
    | with_reducible refine launchHoldAt_calm _ _ _ _ ?_ | split

theorem lockOut_calm (m : Mixer) (second : SecondCause) {s t : State} (hk : Calm slot fin s t) : Calm slot fin s (lockOut m second t) := by
  unfold lockOut
  try dsimp only
  repeat' first
    | with_reducible assumption | with_reducible refine setDrive_calm _ _ ?_
    | with_reducible refine withSeq_calm _ _ ?_ | with_reducible refine raise_calm _ ?_ | split

theorem overloadEvent_calm (m : Mixer) {s t : State} (hk : Calm slot fin s t) : Calm slot fin s (overloadEvent m t) := by
  unfold overloadEvent
  repeat' first
    | with_reducible assumption | with_reducible refine lockOut_calm _ _ ?_
    | with_reducible refine raiseHold_calm _ _ _ ?_ | split

theorem startPotLife_calm (m : Mixer) {s t : State} (hk : Calm slot fin s t) : Calm slot fin s (startPotLife m t) := by
  unfold startPotLife
  repeat' first
    | with_reducible assumption | with_reducible refine withSeq_calm _ _ ?_ | split

theorem afterMix_calm (m : Mixer) {s t : State} (hk : Calm slot true s t) : Calm slot true s (afterMix m t) := by
  unfold afterMix
  repeat' first
    | with_reducible assumption | with_reducible refine stepWait_calm _ _ _ ?_
    | with_reducible refine enterPour_calm _ ?_ | split

theorem enterMix_calm (m : Mixer) {s t : State} (hk : Calm slot fin s t) : Calm slot fin s (enterMix m t) := by
  unfold enterMix
  try dsimp only
  repeat' first
    | with_reducible assumption | with_reducible refine setDrive_calm _ _ ?_
    | with_reducible refine markStage_calm _ _ ?_ | with_reducible refine takeState_calm _ _ _ ?_
    | with_reducible refine withSeq_calm _ _ ?_

theorem afterLiquids_calm (m : Mixer) {s t : State} (hk : Calm slot fin s t) : Calm slot fin s (afterLiquids m t) := by
  unfold afterLiquids
  try dsimp only
  repeat' first
    | with_reducible assumption | with_reducible refine withSeq_calm _ _ ?_
    | with_reducible refine stepWait_calm _ _ _ ?_ | with_reducible refine enterMix_calm _ ?_ | split

theorem doseWater_calm (m : Mixer) {s t : State} (hk : Calm slot fin s t) : Calm slot fin s (doseWater m t) := by
  unfold doseWater
  repeat' first
    | with_reducible assumption | with_reducible refine afterLiquids_calm _ ?_
    | with_reducible refine writeActual_calm _ _ _ ?_ | with_reducible refine deliver_calm _ _ _ ?_
    | with_reducible refine startPotLife_calm _ ?_ | with_reducible refine beginComponent_calm _ _ ?_ | split

theorem enterLiquids_calm (m : Mixer) {s t : State} (hk : Calm slot fin s t) : Calm slot fin s (enterLiquids m t) := by
  unfold enterLiquids
  try dsimp only
  repeat' first
    | with_reducible assumption | with_reducible refine markStage_calm _ _ ?_
    | with_reducible refine takeState_calm _ _ _ ?_ | with_reducible refine doseWater_calm _ ?_
    | with_reducible refine writeActual_calm _ _ _ ?_ | with_reducible refine deliver_calm _ _ _ ?_
    | with_reducible refine beginComponent_calm _ _ ?_ | split

theorem afterCement_calm (m : Mixer) {s t : State} (hk : Calm slot fin s t) : Calm slot fin s (afterCement m t) := by
  unfold afterCement
  repeat' first
    | with_reducible assumption | with_reducible refine stepWait_calm _ _ _ ?_
    | with_reducible refine enterLiquids_calm _ ?_ | split

theorem enterCement_calm (m : Mixer) {s t : State} (hk : Calm slot fin s t) : Calm slot fin s (enterCement m t) := by
  unfold enterCement
  repeat' first
    | with_reducible assumption | with_reducible refine requestScale_calm _ ?_
    | with_reducible refine markStage_calm _ _ ?_ | with_reducible refine takeState_calm _ _ _ ?_

theorem afterAsh_calm (m : Mixer) {s t : State} (hk : Calm slot fin s t) : Calm slot fin s (afterAsh m t) := by
  unfold afterAsh
  repeat' first
    | with_reducible assumption | with_reducible refine stepWait_calm _ _ _ ?_
    | with_reducible refine enterCement_calm _ ?_ | split

theorem enterStage_calm (m : Mixer) (st : Stage) {s t : State} (hk : Calm slot true s t) : Calm slot true s (enterStage m st t) := by
  unfold enterStage
  repeat' first
    | with_reducible assumption | with_reducible refine enterAsh_calm _ ?_
    | with_reducible refine enterCement_calm _ ?_ | with_reducible refine enterLiquids_calm _ ?_
    | with_reducible refine enterMix_calm _ ?_ | with_reducible refine enterPour_calm _ ?_ | split

theorem accept_calm (m : Mixer) (c : Component) {s t : State} (hk : Calm slot fin s t) : Calm slot fin s (accept m c t) := by
  unfold accept
  try dsimp only
  repeat' first
    | with_reducible assumption | with_reducible refine withSeq_calm _ _ ?_ | with_reducible refine afterAsh_calm _ ?_
    | with_reducible refine doseWater_calm _ ?_ | with_reducible refine startPotLife_calm _ ?_
    | with_reducible refine afterLiquids_calm _ ?_ | split

theorem continueDose_calm (m : Mixer) (ch : Channel) (c : Component) (h : HoldRecord) {s t : State} (hk : Calm slot fin s t) : Calm slot fin s (continueDose m ch c h t) := by
  unfold continueDose
  try dsimp only
  repeat' first
    | with_reducible assumption | with_reducible refine deliver_calm _ _ _ ?_
    | with_reducible refine raiseHold_calm _ _ _ ?_ | with_reducible refine accept_calm _ _ ?_ | split

theorem takeStage_calm (m : Mixer) (st : Stage) {s t : State} (hk : Calm slot fin s t) : Calm slot fin s (takeStage m st t) := by
  unfold takeStage
  repeat' first
    | with_reducible assumption | with_reducible refine markStage_calm _ _ ?_ | with_reducible refine takeState_calm _ _ _ ?_
    | with_reducible refine withSeq_calm _ _ ?_ | with_reducible refine withStation_calm _ _ ?_ | split

theorem resumeStage_calm (m : Mixer) (h : HoldRecord) {s t : State} (hk : Calm slot true s t) : Calm slot true s (resumeStage m h t) := by
  unfold resumeStage
  repeat' first
    | with_reducible assumption | with_reducible refine continueDose_calm _ _ _ _ ?_
    | with_reducible refine takeStage_calm _ _ ?_
    | with_reducible refine enterCement_calm _ ?_ | with_reducible refine withSeq_calm _ _ ?_
    | with_reducible refine enterPour_calm _ ?_ | with_reducible refine withStation_calm _ _ ?_
    | with_reducible refine enterStage_calm _ _ ?_ | split

/-! ### Without the end of POUR -/

/-- A stage that is not POUR ends no batch. -/
theorem enterStage_calm_false (m : Mixer) (st : Stage) (hst : st ≠ .pour) {s t : State} (hk : Calm slot fin s t) :
    Calm slot fin s (enterStage m st t) := by
  unfold enterStage
  split
  · exact enterAsh_calm m hk
  · exact enterCement_calm m hk
  · exact enterLiquids_calm m hk
  · exact enterMix_calm m hk
  · exact absurd rfl hst
  · exact hk

/-- A resume into another stage than POUR ends no batch. -/
theorem resumeStage_calm_false (m : Mixer) (h : HoldRecord) (hst : h.stage ≠ .pour) {s t : State} (hk : Calm slot fin s t) :
    Calm slot fin s (resumeStage m h t) := by
  unfold resumeStage
  split
  · exact continueDose_calm _ _ _ _ (takeStage_calm _ _ hk)
  · exact continueDose_calm _ _ _ _ (takeStage_calm _ _ hk)
  · exact continueDose_calm _ _ _ _ (takeStage_calm _ _ hk)
  · exact enterCement_calm _ (withSeq_calm _ _ hk)
  · rename_i hp
    exact absurd hp hst
  · exact enterStage_calm_false _ _ hst hk

/-- A cycle that has enough contents ends no batch. -/
theorem beginCycle_calm_false (m : Mixer) {s t : State} (hk : Calm slot fin s t)
    (hc : ¬ contents m t < shortLimit (classField m (·.castMass) t)) : Calm slot fin s (beginCycle m t) := by
  unfold beginCycle
  split
  · exact hk
  · exact enterSpace_calm m (withStation_calm m _ hk)

/-- After the dose deviation, a resume leaves the casts alone; it ends no batch but by the end of POUR. -/
theorem resume_calm (m : Mixer) (h : HoldRecord) (s : State) (hst : fin = false → h.stage ≠ .pour) :
    Calm slot fin
      (let u := withSeq m (fun q => { q with hold := none, blocked := false }) s
       if h.cause = .overdose then setDeviation m u else u)
      (resume m h s) := by
  unfold resume
  dsimp only
  generalize (if h.cause = .overdose then _ else _) = u
  have hr : Calm slot fin u (resumeStage m h u) := by
    cases fin with
    | true => exact resumeStage_calm m h (Calm.refl u)
    | false => exact resumeStage_calm_false m h (hst rfl) (Calm.refl u)
  split
  · unfold holdAgain
    dsimp only
    refine raiseHold_calm m _ _ ?_
    split
    · exact hr
    · exact takeStage_calm m _ (Calm.refl u)
  · exact hr

end Sys2Proof.Machine
end

