-- ==== Sys2Proof/Laws/Link.lean ====
section
/-! SUPPORT. The frame of every command: what `settle` leaves, and what becomes of a request received on a free Plant Link. -/

namespace Sys2Proof.Machine

/-! ### The end of a command -/

theorem pollNext_congr (s t : State) (hl : t.stationLink = s.stationLink) (hb : t.store.bindings = s.store.bindings) :
    (pollNext t).stationLink = (pollNext s).stationLink := by
  have ha : ∀ a, bayOfAddress a t = bayOfAddress a s := by
    intro a; simp only [bayOfAddress, State.binding, hb]
  have hx : boundAddresses t = boundAddresses s := by simp only [boundAddresses, ha]
  unfold pollNext
  simp only [hl, ha, hx]
  generalize (if (s.stationLink.round.filter fun a => (bayOfAddress a s).isSome) = [] then boundAddresses s
    else s.stationLink.round.filter fun a => (bayOfAddress a s).isSome) = l
  cases l <;> rfl

theorem probeNext_congr (s t : State) (hl : t.stationLink = s.stationLink) :
    (probeNext t).stationLink = (probeNext s).stationLink := by
  unfold probeNext
  rw [hl]
  split <;> simp [sendStation, hl]

/-- What the Station Link carries at the end of a command depends on the link and the bindings alone. -/
theorem settle_link_congr (s t : State) (hl : t.stationLink = s.stationLink) (hb : t.store.bindings = s.store.bindings) :
    (settle t).stationLink = (settle s).stationLink := by
  unfold settle
  simp only [hl]
  split
  · exact hl
  · simp only [flush_eq, hl]
    split
    · apply probeNext_congr
      apply pollNext_congr
      · rfl
      · exact hb
    · apply probeNext_congr
      rfl

/-- The end of a command is settled. -/
theorem settle_settled (x u : State) (hb : u.batteryCleared = none)
    (h : u = { x with outputs := u.outputs, journal := u.journal, batteryCleared := u.batteryCleared }) :
    Settled x (settle u) := by
  have hl : (settle u).stationLink = (settle x).stationLink := by
    apply settle_link_congr <;> rw [h]
  unfold Settled
  rw [settle_eq, hl]
  rw [h]
  simp [hb]

/-- The outputs of a command stand in front of what the Station Link then carries. -/
theorem settle_outputs (s : State) : s.outputs <+: (settle s).outputs := by
  unfold settle
  split
  · exact List.prefix_refl _
  · simp only [flush_eq]
    have hp : ∀ t : State, t.outputs <+: (probeNext t).outputs := by
      intro t
      unfold probeNext
      split
      · exact List.prefix_append _ _
      · exact List.prefix_refl _
    have hn : ∀ t : State, t.outputs <+: (pollNext t).outputs := by
      intro t
      unfold pollNext
      dsimp only
      split
      · exact List.prefix_refl _
      · exact List.prefix_append _ _
    have ha : s.outputs <+: s.outputs ++ s.stationLink.waitingActuations.map fun r => .station r (encodeStation r) :=
      List.prefix_append _ _
    split
    · exact (List.IsPrefix.trans (by exact ha) (hn _)).trans (hp _)
    · exact List.IsPrefix.trans (by exact ha) (hp _)

/-- `settle_settled`, with what the command sent. -/
theorem settle_completes (c : Instr) (s x u : State) (o : List Output) (he : exec c s = .next (settle u))
    (hb : u.batteryCleared = none)
    (h : u = { x with outputs := u.outputs, journal := u.journal, batteryCleared := u.batteryCleared })
    (ho : o <+: u.outputs) : Completes c s x o :=
  ⟨_, he, settle_settled x u hb h, ho.trans (settle_outputs u)⟩

/-- A command of a powered controller. -/
theorem command_powered (f : State → State) (s : State) (h : s.powered = true) : command f s = .next (settle (f (begin s))) := by
  simp [command, h]

/-! ### A request on a free link -/

/-- The state in which a record received on a free link is acted on; `State.holding` for a request. -/
def taken (q : Received) (s : State) : State :=
  { begin s with plantLink := { s.plantLink with inHand := some q } }

theorem taken_requested (tag : Nat) (r : Request) (s : State) : taken (requested tag r) s = s.holding tag r := rfl

theorem offer_free (q : Received) (s : State) (h : linkFree s) :
    offer q (begin s) = formReply q (answer q.content (taken q s)) := by
  obtain ⟨_, h1, h2, h3, _, _, _⟩ := h
  have hg : offer q (begin s) =
      if s.plantLink.buffer.length < Config.inputBufferSize then
        takeNext { begin s with plantLink := { s.plantLink with buffer := s.plantLink.buffer ++ [q] } }
      else begin s := by
    unfold offer
    simp only [begin_plantLink]
    cases hr : s.plantLink.receiver <;> first | exact absurd hr h1 | rfl
  rw [hg, if_pos (by simp [h2, Config.inputBufferSize])]
  unfold takeNext
  simp [h2, h3, taken]

/-- A notice raised while the request in hand is acted on waits for its reply (R179, R181). -/
theorem raise_waits (n : Notice) (t : State) (h1 : t.plantLink.held = none) (h2 : t.plantLink.sending = none)
    (h3 : t.plantLink.reply = none) (h4 : t.plantLink.inHand.isSome = true) : raise n t = queueNotice n t := by
  obtain ⟨q, hq⟩ := Option.isSome_iff_exists.mp h4
  have hk : ∀ u : State, u.plantLink.sending = none → u.plantLink.reply = none → u.plantLink.inHand = some q →
      kick u = u := by
    intro u a b c
    unfold kick
    simp only [a, b, c]
  unfold raise
  simp only [h1]
  unfold queueNotice
  split <;> exact hk _ h2 h3 hq

/-- The reply of the request in hand, with the transmitter free, is begun at once. -/
theorem formReply_free (q : Received) (t : State) (r : Reply) (hs : t.plantLink.sending = none) (hr : t.plantLink.reply = none) :
    formReply q (t, r) =
      { t with
        plantLink := { t.plantLink with
          sending := some { frame := .reply q.kind q.tag r, bytes := encodeFrame (.reply q.kind q.tag r) } }
        outputs := t.outputs ++ [.frame (.reply q.kind q.tag r)] } := by
  simp [formReply, kick, beginFrame, emit, hs, hr]

/-- A request row is a received request. -/
theorem exec_request (c : Instr) (tag : Nat) (r : Request) (s : State) (hc : c.request? = some (tag, r)) :
    exec c s = request tag r s := by
  cases c <;> simp only [Instr.request?, Option.some.injEq, Prod.mk.injEq, reduceCtorEq] at hc <;>
    (obtain ⟨rfl, rfl⟩ := hc; rfl)

/-- A request on a free link, acted on without a notice: the state that the action makes, `x` but for the request in hand, with the reply being sent; what the action sent goes out before the reply. -/
theorem request_completes (c : Instr) (tag : Nat) (r : Request) (rep : Reply) (s t x : State) (o : List Output)
    (hc : c.request? = some (tag, r)) (h : linkFree s) (ha : act r (taken (requested tag r) s) = (t, rep))
    (hx : t = { x with plantLink := { x.plantLink with inHand := some (requested tag r) }, outputs := t.outputs,
                       journal := t.journal, batteryCleared := t.batteryCleared })
    (hs : x.plantLink.sending = none) (hr : x.plantLink.reply = none) (hb : t.batteryCleared = none)
    (ho : o <+: t.outputs ++ [replyFrame tag r rep]) : Completes c s (x.answered tag r rep) o := by
  have p1 : s.powered = true := h.1
  have hp : t.plantLink = { x.plantLink with inHand := some (requested tag r) } := by rw [hx]
  have h1 : t.plantLink.sending = none := by rw [hp]; exact hs
  have h2 : t.plantLink.reply = none := by rw [hp]; exact hr
  have hy : answer (requested tag r).content (taken (requested tag r) s) = (t, rep) := ha
  have hr : offer (requested tag r) (begin s) = _ :=
    (offer_free _ _ h).trans ((congrArg _ hy).trans (formReply_free _ _ _ h1 h2))
  refine settle_completes c s _ _ _ ((exec_request c tag r s hc).trans (command_powered _ _ p1)) ?_ ?_ ?_
  all_goals rw [hr]
  · exact hb
  · simp only [State.answered, answering]
    rw [hp, hx]
  · exact ho

/-- A request refused on a free link changes nothing but the Plant Link. -/
theorem request_refused (c : Instr) (tag : Nat) (r : Request) (rep : Reply) (s : State) (o : List Output)
    (hc : c.request? = some (tag, r)) (h : linkFree s)
    (ha : act r (taken (requested tag r) s) = (taken (requested tag r) s, rep)) (ho : o <+: [replyFrame tag r rep]) :
    Completes c s (s.answered tag r rep) o :=
  request_completes c tag r rep s _ s o hc h ha rfl h.2.2.2.2.2.1 h.2.2.2.2.1 rfl ho

end Sys2Proof.Machine
end

