-- ==== Sys2Proof/Laws/PerInstr.lean ====
section
/-! SUPPORT. Per command: a well-formed request row carries a tag of one byte and a request whose every field fits its bytes. -/

namespace Sys2Proof.Laws.Carried

/-- What a request row carries fits the frame that carries it (R178, R187 (7)). -/
def Statement (i : Instr) : Prop :=
  ∀ tag r, i.request? = some (tag, r) → i.wf = true → fits 1 tag = true ∧ r.wf = true

/-- For every command at once; the lemmas of the constructors are its instances. -/
theorem carried (i : Instr) : Statement i := by
  intro tag r h w
  unfold Instr.wf at w
  rw [h] at w
  simpa using w

theorem orderPost (tag : Nat) (r : OrderRequest) : Statement (.orderPost tag r) := carried _
theorem orderWithdraw (tag order : Nat) : Statement (.orderWithdraw tag order) := carried _
theorem lotDefine (tag lot moisture band : Nat) : Statement (.lotDefine tag lot moisture band) := carried _
theorem lotClose (tag lot : Nat) : Statement (.lotClose tag lot) := carried _
theorem classSet (tag cls : Nat) (r : ClassRecord) : Statement (.classSet tag cls r) := carried _
theorem baySet (tag : Nat) (r : BayRequest) : Statement (.baySet tag r) := carried _
theorem bayMark (tag position status : Nat) : Statement (.bayMark tag position status) := carried _
theorem baySeal (tag bay : Nat) : Statement (.baySeal tag bay) := carried _
theorem bayUnseal (tag bay : Nat) : Statement (.bayUnseal tag bay) := carried _
theorem hunt (tag : Nat) : Statement (.hunt tag) := carried _
theorem stationAccept (tag bay : Nat) : Statement (.stationAccept tag bay) := carried _
theorem stationUnbind (tag bay : Nat) : Statement (.stationUnbind tag bay) := carried _
theorem mixerHold (tag mixer : Nat) : Statement (.mixerHold tag mixer) := carried _
theorem mixerResume (tag mixer : Nat) : Statement (.mixerResume tag mixer) := carried _
theorem mixerAbandon (tag mixer : Nat) : Statement (.mixerAbandon tag mixer) := carried _
theorem mixerStep (tag mixer : Nat) : Statement (.mixerStep tag mixer) := carried _
theorem mixerClear (tag mixer : Nat) : Statement (.mixerClear tag mixer) := carried _
theorem shuttleRetry (tag : Nat) : Statement (.shuttleRetry tag) := carried _
theorem castPlace (tag cast position : Nat) : Statement (.castPlace tag cast position) := carried _
theorem castDiscard (tag : Nat) (ref : CastRef) : Statement (.castDiscard tag ref) := carried _
theorem castAssess (tag cast : Nat) : Statement (.castAssess tag cast) := carried _
theorem castTake (tag : Nat) (ref : CastRef) (force : Bool) : Statement (.castTake tag ref force) := carried _
theorem queryStatus (tag start : Nat) : Statement (.queryStatus tag start) := carried _
theorem queryCast (tag : Nat) (ref : CastRef) : Statement (.queryCast tag ref) := carried _
theorem queryBay (tag bay : Nat) (clear : Bool) : Statement (.queryBay tag bay clear) := carried _
theorem queryMixer (tag mixer : Nat) : Statement (.queryMixer tag mixer) := carried _
theorem queryQueue (tag : Nat) : Statement (.queryQueue tag) := carried _
theorem queryBatch (tag batch : Nat) : Statement (.queryBatch tag batch) := carried _
theorem queryClass (tag cls : Nat) : Statement (.queryClass tag cls) := carried _
theorem queryLot (tag lot : Nat) : Statement (.queryLot tag lot) := carried _
theorem clockSet (tag value : Nat) : Statement (.clockSet tag value) := carried _
theorem restart (tag : Nat) : Statement (.restart tag) := carried _
theorem unknownKindRequest (tag kind : Nat) : Statement (.unknownKindRequest tag kind) := carried _
theorem plantLinkByte (byte : Byte) : Statement (.plantLinkByte byte) := carried _
theorem interByteGap : Statement (.interByteGap) := carried _
theorem frameSent : Statement (.frameSent) := carried _
theorem deliveryCompletion (m : Mixer) (channel : DoseChannel) (amount : Nat) : Statement (.deliveryCompletion m channel amount) := carried _
theorem cementWeighingCompletion (amount : Nat) : Statement (.cementWeighingCompletion amount) := carried _
theorem cementDischargeCompletion (m : Mixer) (amount : Nat) : Statement (.cementDischargeCompletion m amount) := carried _
theorem rejectDischargeCompletion (m : Mixer) : Statement (.rejectDischargeCompletion m) := carried _
theorem deliveryTimeLimit (m : Mixer) : Statement (.deliveryTimeLimit m) := carried _
theorem mixTimerExpiry (m : Mixer) : Statement (.mixTimerExpiry m) := carried _
theorem potLifeExpiry (m : Mixer) : Statement (.potLifeExpiry m) := carried _
theorem motorOverload (m : Mixer) (asserted : Bool) : Statement (.motorOverload m asserted) := carried _
theorem spaceWaitExpiry (m : Mixer) : Statement (.spaceWaitExpiry m) := carried _
theorem moldArrival (m : Mixer) : Statement (.moldArrival m) := carried _
theorem moldCallTimeout (m : Mixer) : Statement (.moldCallTimeout m) := carried _
theorem tagReadResult (m : Mixer) (result : TagRead) : Statement (.tagReadResult m result) := carried _
theorem fillCompletion (m : Mixer) (mass : Nat) : Statement (.fillCompletion m mass) := carried _
theorem tagWriteResult (m : Mixer) (written : Bool) : Statement (.tagWriteResult m written) := carried _
theorem placementCompletion (confirmed : Bool) : Statement (.placementCompletion confirmed) := carried _
theorem doorWaitExpiry : Statement (.doorWaitExpiry) := carried _
theorem conditionReport (r : Report) : Statement (.conditionReport r) := carried _
theorem idleAnswer (address : Nat) : Statement (.idleAnswer address) := carried _
theorem poll : Statement (.poll) := carried _
theorem pollAnswerTimeout : Statement (.pollAnswerTimeout) := carried _
theorem lateTimerExpiry (bay : Nat) : Statement (.lateTimerExpiry bay) := carried _
theorem identityAnswer (address serial : Nat) : Statement (.identityAnswer address serial) := carried _
theorem probeSilence : Statement (.probeSilence) := carried _
theorem sealStepTimeout (bay : Nat) : Statement (.sealStepTimeout bay) := carried _
theorem conditionDeadline (bay : Nat) : Statement (.conditionDeadline bay) := carried _
theorem coolDownExpiry (bay : Nat) : Statement (.coolDownExpiry bay) := carried _
theorem unsealStepTimeout (bay : Nat) : Statement (.unsealStepTimeout bay) := carried _
theorem minuteTimerExpiry : Statement (.minuteTimerExpiry) := carried _
theorem powerUp : Statement (.powerUp) := carried _
theorem powerLoss (cut : WriteCut) (batteryFails : Bool) (seconds : Nat) : Statement (.powerLoss cut batteryFails seconds) := carried _
theorem stationFrameDiscarded (frame : List Byte) : Statement (.stationFrameDiscarded frame) := carried _

end Sys2Proof.Laws.Carried
end

