-- ==== Sys2Proof/Tests/Slice0.lean ====
section
/-! SUPPORT. Own tests: ill-formed commands refused by the check, the worked figures of the spec, single steps, and for every statement with hypotheses a state and operands that meet them. -/

namespace Sys2Proof.Tests

open Sys2Proof.Machine

-- One test after another: each waits for the kernel, and tests side by side would each hold a thread while they wait.
set_option Elab.async false

/-! ### Small states -/

/-- A class in range. -/
def cls : ClassRecord :=
  { cement := 350, chloride0 := 0, chloride1 := 20, chloride2 := 50, chloride3 := 80, water := 380, chelant := 20,
    castMass := 1000, moldMatch := 32, moldMask := 240, mixTime := 240, potLife := 90, datum := -50, cap := 350,
    minHumidity := 91, target := 120000, minAge := 72, maxAge := 240, gapAllow := 120, dryAllow := 720, placement := [1] }

/-- Reset, with the POWER UP notice sent. -/
def free : State := { State.reset with plantLink := { State.reset.plantLink with sending := none } }

/-- Something is changed on the Plant Link. -/
def linked (f : PlantLink → PlantLink) : State := { free with plantLink := f free.plantLink }

def lot : Lot := { number := 3, moisture := 180, band := 2, state := .opened }

/-- One class, one lot, and bay 1 bound at address 1, FILLING, LOCKED, with two FREE positions; the poll of address 1 is on
the line. -/
def hall : State :=
  let s := write (.lot 1 (some lot)) (write (.cls 1 (some cls)) free)
  let s := write (.binding 1 (some { address := 1, serial := 77 })) s
  let s := writeSettings 1 { BaySettings.default 1 .filling with fillOrder := [1, 2] } s
  let s := withAligner 1 (fun a => { a with state := .locked, expected := some 9, lateTimer := some 450 }) s
  let s := writeEntry 2 .free (writeEntry 1 .free s)
  { begin s with stationLink := { s.stationLink with hunt := none, exchange := some (.poll 1) } }

/-- The hall with its bay in another state. -/
def bayIn (st : BayState) : State := setBayState 1 st hall

def recd : BatchRecord :=
  { id := 5, order := some 9, lot := some 3, cls := some 1, mixer := some .a,
    targets := { ash := 1000, cement := 400, water := 300, chelant := 20 }, mass := 1720,
    actuals := { ash := some 1000, cement := some 400, chelant := some 20, water := some 300 }, reservation := [1, 2],
    poured := 0, rejected := 0, doseDeviation := false, stepped := false, damaged := false, start := some 0,
    endTime := none, endCause := none, live := 0 }

/-- The hall with a batch in slot 1 that runs on mixer A. -/
def batch (r : BatchRecord) (q : Sequencer → Sequencer) : State :=
  let s := writeBatch 1 (some r) hall
  let s := writeEntry 2 (.reserved 1 5) (writeEntry 1 (.reserved 1 5) s)
  let s := writeMarker .a (some { slot := 1, batch := 5, stage := .pour }) s
  begin (withSeq .a (fun x => q { x with batch := some { slot := 1, id := 5 }, drive := .agitate }) s)

/-- Mixer A in a state and stage. -/
def mixer (st : MixerState) (stage : Option Stage) : State :=
  batch recd fun q => { q with state := st, stage := stage, potLife := .running 5000 }

/-- Mixer A with a delivery in course. -/
def dosing (ch : Channel) : State :=
  withSeq .a (fun q => { q with delivery := some { channel := ch, amount := 50, limit := some 300 } })
    (mixer .charging (some .ash))

/-- Mixer A HELD with a record. -/
def held (st : Stage) : State :=
  withSeq .a (fun q =>
    { q with
      hold := some { cause := .operator, component := none, stage := st, dosed := none, poured := 0, time := 0 }
      blocked := true, component := some .ash, dosed := 10 })
    (mixer .held none)

/-- Mixer A POURING with its station changed. -/
def pouring (f : PourStation → PourStation) : State := withStation .a f (mixer .pouring (some .pour))

/-- A cast of the batch. -/
def cast (st : CastState) : CastPart :=
  { id := 7, slot := 1, batch := 5, order := 9, lot := 3, cls := 1, pourTime := 0, placed := some 0, mass := 1000,
    maturity := 0, gap := 0, dry := 0, substituted := 0, state := st, causes := .empty, flags := .empty }

/-- The batch with one cast poured into position 1. -/
def holds (st : CastState) : State :=
  begin (writeEntry 1 (.occupied (cast st)) (batch { recd with live := 1, poured := 1 } id))

/-- The cast in TRANSIT at the head of the Transit Queue, with a shuttle state. -/
def moving (st : ShuttleState) : State :=
  { holds .transit with
    transit := [{ cast := 7, position := 1, station := .a, written := true }]
    shuttle := { state := st, doorWait := none } }

def order : OrderRequest :=
  { order := 9, lot := 3, cls := 1, count := 1, mixerChoice := 3, step := false, bayCount := 0, bayBytes := [0, 0, 0, 0] }

def queued : Order :=
  { number := 9, lot := 3, cls := 1, count := 2, choice := .a, bays := none, step := false,
    targets := { ash := 1, cement := 1, water := 0, chelant := 0 }, mass := 2 }

/-- A report of address 1. -/
def report (q : BitVec 4) (fault : Bool) : Report :=
  { address := 1, sequence := q, period := 300, temperature := 186, humidity := 918, doorClosed := false, latched := false,
    ready := false, button := false, fault := fault }

/-- Bay 1 with its aligner changed. -/
def aligner (f : Aligner → Aligner) : State := withAligner 1 f hall

/-- Bay 1 in a state at a step. -/
def bayAt (st : BayState) (step : SeqStep) : State :=
  withBay 1 (fun b => { b with step := some step, deadline := some 9 }) (bayIn st)

/-- The probe of address 1 on the line, in a hunt. -/
def probing (s : State) : State :=
  { s with stationLink := { s.stationLink with exchange := some (.probe 1), hunt := some Hunt.first } }

/-- The oscillator shows a time. -/
def later (n : Nat) (s : State) : State := { s with oscillator := n }

/-- An item of a table whose items are all alike. -/
theorem at1_replicate {α : Type} (n i : Nat) (x d : α) :
    at1 (Vector.replicate n x) i d = x ∨ at1 (Vector.replicate n x) i d = d := by
  cases i with
  | zero => exact .inr rfl
  | succ k =>
    simp only [at1]
    by_cases h : k < n
    · rw [Vector.getElem?_eq_getElem h, Vector.getElem_replicate]; exact .inl rfl
    · rw [Vector.getElem?_eq_none (by omega)]; exact .inr rfl

/-- What a test of one step asks: the state after it. -/
def next (c : Instr) (s : State) : State :=
  match exec c s with
  | .next t => t
  | _ => s

/-! ### Ill-formed commands -/

def badClasses : List ClassRecord :=
  [{ cls with cement := 65536 }, { cls with chloride0 := 256 }, { cls with chloride1 := 256 }, { cls with chloride2 := 256 },
   { cls with chloride3 := 256 }, { cls with water := 65536 }, { cls with chelant := 256 }, { cls with castMass := 65536 },
   { cls with moldMatch := 256 }, { cls with moldMask := 256 }, { cls with mixTime := 65536 }, { cls with potLife := 256 }] ++
  [{ cls with datum := 128 }, { cls with datum := -129 }, { cls with cap := 32768 }, { cls with cap := -32769 },
   { cls with minHumidity := 256 }, { cls with target := 16777216 }, { cls with minAge := 65536 },
   { cls with maxAge := 65536 }, { cls with gapAllow := 65536 }, { cls with dryAllow := 65536 },
   { cls with placement := [256] }, { cls with placement := List.replicate 256 1 }]

theorem test_ill_formed_class_refused : badClasses.all (fun r => !(Instr.classSet 1 1 r).wf) = true := by decide +kernel

theorem test_ill_formed_order_refused :
    [{ order with order := 65536 }, { order with lot := 65536 }, { order with cls := 256 }, { order with count := 256 },
      { order with mixerChoice := 256 }, { order with bayCount := 256 }, { order with bayBytes := [1, 2, 3] },
      { order with bayBytes := [1, 2, 3, 256] }].all (fun r => !(Instr.orderPost 1 r).wf) = true := by decide

def bayRequest : BayRequest :=
  { bay := 1, levels := 4, slots := 6, fillOrder := none, period := 300, cutLimit := 12, autoSeal := false, settle := 0,
    coolDown := 120 }

theorem test_ill_formed_bay_refused :
    [{ bayRequest with bay := 256 }, { bayRequest with levels := 256 }, { bayRequest with slots := 256 },
      { bayRequest with fillOrder := some [65536] }, { bayRequest with fillOrder := some (List.replicate 256 1) },
      { bayRequest with period := 65536 }, { bayRequest with cutLimit := 256 }, { bayRequest with settle := 65536 },
      { bayRequest with coolDown := 65536 }].all (fun r => !(Instr.baySet 1 r).wf) = true := by decide +kernel

def badRequests : List Instr :=
  [.orderWithdraw 256 1, .orderWithdraw 1 65536, .lotDefine 1 65536 0 0, .lotDefine 1 1 65536 0, .lotDefine 1 1 0 256,
   .lotClose 1 65536, .classSet 1 256 cls, .bayMark 1 65536 2, .bayMark 1 1 256, .baySeal 1 256, .bayUnseal 1 256,
   .stationAccept 1 256, .stationUnbind 1 256, .mixerHold 1 256, .mixerResume 1 256, .mixerAbandon 1 256,
   .mixerStep 1 256, .mixerClear 1 256] ++
  [.castPlace 1 16777216 1, .castPlace 1 1 65536, .castDiscard 1 (.byId 16777216), .castDiscard 1 (.byPosition 16777216),
   .castAssess 1 16777216, .castTake 1 (.byId 16777216) false, .castTake 1 (.byPosition 16777216) true,
   .queryStatus 1 65536, .queryCast 1 (.byId 16777216), .queryBay 1 256 false, .queryMixer 1 256, .queryBatch 1 65536,
   .queryClass 1 256, .queryLot 1 65536, .clockSet 1 4294967296, .hunt 256, .shuttleRetry 256, .queryQueue 256,
   .restart 256]

theorem test_ill_formed_request_refused : badRequests.all (fun i => !i.wf) = true := by decide

def badEvents : List Instr :=
  [.unknownKindRequest 256 40, .unknownKindRequest 1 256, .unknownKindRequest 1 1, .unknownKindRequest 1 32,
   .deliveryCompletion .a .ash 15001, .cementWeighingCompletion 15001, .cementDischargeCompletion .b 15001,
   .fillCompletion .a 15001, .tagReadResult .a (.read { id := 4294967296, moldType := 1, condition := .ready }),
   .tagReadResult .a (.read { id := 1, moldType := 256, condition := .used })] ++
  [.conditionReport { report 1 false with address := 0 }, .conditionReport { report 1 false with address := 32 },
   .conditionReport { report 1 false with period := 65536 }, .conditionReport { report 1 false with temperature := 32768 },
   .conditionReport { report 1 false with temperature := -32769 }, .conditionReport { report 1 false with humidity := 65536 },
   .idleAnswer 0, .idleAnswer 32, .identityAnswer 32 1, .identityAnswer 1 4294967296, .lateTimerExpiry 0,
   .lateTimerExpiry 13, .sealStepTimeout 13, .conditionDeadline 0, .coolDownExpiry 13, .unsealStepTimeout 0]

theorem test_ill_formed_event_refused : badEvents.all (fun i => !i.wf) = true := by decide

theorem test_well_formed_at_the_bounds :
    [.clockSet 255 4294967295, .deliveryCompletion .a .ash 15000, .idleAnswer 31, .lateTimerExpiry 12,
      .unknownKindRequest 0 33, .unknownKindRequest 0 0, .castPlace 0 16777215 65535, Instr.classSet 0 6 cls].all
      (fun i => i.wf) = true := by decide

/-! ### Worked figures -/

/-- Table 1.4. -/
theorem test_worked_dose_case :
    computeDoses 6 { cls with castMass := 1200 } 180 2 =
      { ash := 4498, cement := 1475, water := 1151, chelant := 73, mass := 7200 } := by decide

/-- 1.5 (1), (2). -/
theorem test_worked_refusals :
    let a := { cls with cement := 800, chloride3 := 200, water := 250, chelant := 0, castMass := 1250 }
    let b := { cls with cement := 150, chloride0 := 0, water := 250, chelant := 0, castMass := 1000 }
    (computeDoses 12 a 0 3).mass = 15000 ∧ (computeDoses 12 a 0 3).cement = 5683 ∧
    doseRefusal (computeDoses 12 a 0 3) = some .overScale ∧ (computeDoses 7 a 0 3).cement = 3315 ∧
    (computeDoses 4 b 450 0).water = -1478 ∧ doseRefusal (computeDoses 4 b 450 0) = some .wetLot := by decide

/-- 3.13: the bands of the worked batch. -/
theorem test_worked_bands :
    (lowerLimit .ash 4498, upperLimit .ash 4498) = (4454, 4542) ∧
    (lowerLimit .cement 1475, upperLimit .cement 1475) = (1461, 1519) ∧
    (lowerLimit .chelant 73, upperLimit .chelant 73) = (70, 76) ∧
    (lowerLimit .water 1151, upperLimit .water 1151) = (1134, 1168) := by decide

/-- Table 8.9: the credits of the worked cast. -/
theorem test_worked_credits :
    [186, 190, 191, 192, 178, 200].map (fun t => creditOf (-50) 350 t 300) = [196, 200, 200, 201, 190, 208] := by decide

/-- R178: the check word of the nine digits, the usual check value of this generator and preset. -/
theorem test_check_word :
    crc16 [0x31#8, 0x32#8, 0x33#8, 0x34#8, 0x35#8, 0x36#8, 0x37#8, 0x38#8, 0x39#8] = 0x29B1#16 := by decide +kernel

/-- The row has no bits: no word spells a command. -/
theorem test_no_word_spells_a_command : decodeTableWord 8 0 = none ∧ State.reset.withFetchWord 8 0 = State.reset :=
  ⟨rfl, rfl⟩

/-- A module whose store has never been written, before its first power-up: every check word is bad; the clock is at 0 and the
battery good (log 5). -/
def factory : State :=
  { State.reset with
    powered := false
    store :=
      { Store.first with
        damaged :=
          (List.range' 1 288).map .entry ++ (List.range' 1 32).map .batch ++ (List.range' 1 6).map .cls ++
          (List.range' 1 8).map .lot ++ (List.range' 1 12).map .binding ++ (List.range' 1 12).map .settings ++
          [.castCounter, .batchCounter, .marker .a, .marker .b, .lastStamp] } }

/-! ### Single steps -/

theorem test_poll_addresses_the_next_bound_station :
    let s := { hall with stationLink := { hall.stationLink with exchange := none } }
    (next .poll s).stationLink.exchange = some (.poll 1) ∧
    (next .poll s).outputs = [.station (.poll 1) (encodeStation (.poll 1))] := by decide +kernel

theorem test_report_in_sequence_is_credited_and_counted :
    let t := next (.conditionReport (report 9 false)) hall
    (t.aligner 1).expected = some 10 ∧ (t.aligner 1).lastGood = some (186, 918) ∧
    (t.aligner 1).counters.accepted = 1 ∧ (t.bay 1).door = .opened := by decide +kernel

theorem test_overdose_of_ash_holds_the_mixer :
    let t := next (.deliveryCompletion .a .ash 1011) (dosing .ash)
    (t.seq .a).state = .held ∧ ((t.seq .a).hold.map (·.cause)) = some .overdose ∧ (t.seq .a).blocked = true := by
  decide +kernel

theorem test_dose_at_the_upper_limit_is_accepted :
    let t := next (.deliveryCompletion .a .ash 1010) (dosing .ash)
    (t.seq .a).stage = some .cement ∧ t.arbiter.holder = some .a := by decide +kernel

theorem test_short_dose_is_topped_up_once :
    let t := next (.deliveryCompletion .a .ash 900) (dosing .ash)
    (t.seq .a).delivery.map (·.amount) = some 100 ∧ (t.seq .a).topUp = true := by decide +kernel

theorem test_mold_of_another_type_is_passed_on :
    let s := pouring fun x => { x with step := .read, castIndex := some 1 }
    (next (.tagReadResult .a (.read { id := 1, moldType := 16, condition := .ready })) s).outputs =
      [.moldPassedOn .a, .moldCall .a] := by decide +kernel

theorem test_second_fault_locks_out :
    let t := next (.motorOverload .a true) (held .mix)
    (t.seq .a).state = .lockout ∧ (t.seq .a).potLife = .stopped := by decide +kernel

theorem test_late_expiry_hands_over_a_substitute :
    let t := next (.lateTimerExpiry 1) (later 450 hall)
    (t.aligner 1).run = 1 ∧ (t.aligner 1).expected = some 10 ∧ (t.aligner 1).counters.late = 1 := by decide +kernel

/-- Table 6.5: a deadline that the step's flag has outrun finds the next step's deadline, and does nothing. -/
theorem test_early_expiry_is_discarded :
    let s := withBay 1 (fun b => { b with step := some .lock, deadline := some 40 }) (setBayState 1 .sealing hall)
    (next (.sealStepTimeout 1) (later 39 s)).bayState 1 = .sealing ∧
    (next (.sealStepTimeout 1) (later 40 s)).bayState 1 ≠ .sealing := by decide +kernel

/-- R188: a loss between two writes keeps the first and undoes the second, and damages neither. -/
theorem test_power_lost_between_writes :
    let s := write (.castCounter 5) (write (.batchCounter 4) free)
    let t := next (.powerLoss (.after 1) false 0) s
    t.store.batchCounter = 4 ∧ t.store.castCounter = 0 ∧ t.store.damaged = [] := by decide +kernel

/-- R6, R8: the ranks above a lot that leaves CLOSED are lowered in rising order, so that no two agree in between. -/
theorem test_ranks_close_up_in_rising_order :
    let shut := fun (n : Nat) => some { lot with number := n, state := .closed n }
    let s := write (.lot 1 (shut 3)) (write (.lot 2 (shut 2)) (write (.lot 3 (shut 1)) free))
    byRank s = [3, 2, 1] ∧ (next (.lotDefine 1 1 0 0) s).journal.map (·.before.id) = [.lot 1, .lot 2, .lot 3] := by
  decide +kernel

theorem test_unknown_kind_is_refused :
    (next (.unknownKindRequest 7 33) free).outputs =
      [.frame (.reply 33 7 (.refused .unknownKind .empty))] := by decide +kernel

theorem test_bytes_of_a_frame_are_a_request :
    parseRequest 11 [0x03#8] = .request (.stationAccept 3) ∧ parseRequest 11 [] = .malformed ∧
    parseRequest 33 [] = .unknownKind := by decide +kernel

/-! ### The hypotheses of the statements are met -/

theorem witness_StepTakesTheFrontCommand :
    ({ free with pending := [.poll, .hunt 1] } : State).pending = .poll :: [.hunt 1] := rfl

theorem witness_EmptyQueueLetsOneSecondPass : free.pending = [] := rfl

theorem witness_EveryCommandAnswersNext : Instr.poll ≠ .powerUp ∧ ∀ k b n, Instr.poll ≠ .powerLoss k b n :=
  ⟨by decide, by intro _ _ _ h; cases h⟩

theorem witness_ClockNeverDecreases :
    ∃ t, exec .poll free = .next t ∧ Instr.poll ≠ .powerUp ∧ free.clock ≤ 4294967295 := ⟨_, rfl, by decide, by decide⟩

theorem witness_EveryStepKeepsTheInvariant : ∃ t, Inv free ∧ step free = .next t := by
  refine ⟨_, ⟨by decide, by decide, by decide, by decide, fun p => ?_, by decide, by decide, fun m => by cases m <;> rfl⟩, rfl⟩
  show (at1 (Vector.replicate 288 Entry.unusable) p .nonexistent).inRange = true
  rcases at1_replicate 288 p Entry.unusable .nonexistent with h | h <;> rw [h] <;> rfl

/-- The places bound states: six entries and no claim are kept, five and two claims are not, nor a fill without a claim. -/
theorem test_places_are_kept :
    let e : TransitEntry := { cast := 7, position := 1, station := .a, written := true }
    let s := { free with transit := List.replicate 6 e }
    let claimed := fun (k : Mixer) (x : State) => withStation k (fun y => { y with claim := true }) x
    PlacesKept s ∧ ¬ PlacesKept (claimed .a (claimed .b { free with transit := List.replicate 5 e })) ∧
    ¬ PlacesKept (withStation .b (fun y => { y with fill := some 9 }) free) := by
  refine ⟨⟨by decide, fun m => by cases m <;> rfl⟩, fun h => absurd h.1 (by decide), fun h => absurd (h.2 .b) (by decide)⟩

/-- The supply on after two writes, and with the indication cleared after one write; the supply off; a store without damage,
a marker, a TRANSIT cast and a placed one; a failed battery; one damaged record of each kind the statement names. -/
theorem witness_PowerLossAndPowerUp :
    let s := write (.castCounter 5) (write (.batchCounter 4) free)
    let off := { moving .idle with powered := false }
    (s.powered = true ∧ s.journal =
      [{ before := .castCounter 0, good := true }, { before := .batchCounter 0, good := true }] ∧
      s.store.damaged.contains .castCounter = false) ∧
    (cutBefore (.after 0) 1 = true ∧ cutBefore (.during 1) 1 = false ∧ cutBefore .complete 1 = false) ∧
    (off.powered = false ∧ Instr.poll ≠ .powerUp) ∧
    (off.store.damaged = [] ∧ off.batteryFail = false ∧ off.marker .a = some { slot := 1, batch := 5, stage := .pour } ∧
      off.marker .b = none ∧ off.castAt 1 = some (cast .transit) ∧ (off.batch 1).isSome = true) ∧
    (holds .curing).castAt 1 = some (cast .curing) ∧
    ({ off with batteryFail := true } : State).store.damaged = [] ∧
    ((cast .transit).cls = 1 ∧ (cast .transit).slot = 1 ∧ tableNames 1 off = some (cast .transit).batch) ∧
    ∀ d ∈ [RecordId.lastStamp, .entry 1, .cls 1, .batch 1],
      let t := { off with store := { off.store with damaged := [d] } }
      t.store.damaged = [d] ∧ t.batteryFail = false ∧ t.castAt 1 = some (cast .transit) := by decide +kernel

theorem witness_NoticeQueueHolds32 :
    (linked fun p => { p with notices := List.replicate 31 (.bayEmpty 1 .filling) }).plantLink.notices.length < 32 ∧
    32 ≤ (linked fun p => { p with notices := List.replicate 32 (.bayEmpty 1 .filling) }).plantLink.notices.length := by
  decide

theorem witness_RequestBodiesReadBack :
    (Request.clockSet 4294967295).wf = true ∧ (Request.orderPost { order with order := 65535 }).wf = true ∧
    (Request.classSet 255 cls).wf = true := by decide

theorem witness_WholeFrameIsOffered :
    (255 : Nat) < 256 ∧ (List.replicate 250 (0#8 : Byte)).length ≤ 250 ∧ free.plantLink.receiver = .hunting := by
  decide +kernel

/-- A byte in HUNT; a frame of one byte; length bytes 251 and 250; a complete frame whose check word is wrong. -/
theorem witness_ReceiverTakesBytes :
    let s := linked fun p => { p with receiver := .receiving [0x00#8] }
    let w := [0x00#8, 0x00#8, 0x0A#8, 0x01#8, 0x00#8]
    free.powered = true ∧ free.plantLink.receiver = .hunting ∧ (0x7D#8 : Byte) ≠ 0x7E#8 ∧
    (linked fun p => { p with receiver := .receiving [] }).plantLink.receiver = .receiving [] ∧
    ([] ++ [0x7E#8] : List Byte).length < 2 ∧ s.plantLink.receiver = .receiving [0x00#8] ∧
    2 ≤ ([0x00#8] ++ [0xFB#8] : List Byte).length ∧ 250 < field ([0x00#8] ++ [0xFB#8]) 0 2 ∧
    field ([0x00#8] ++ [0xFA#8]) 0 2 ≤ 250 ∧
    ([0x00#8] ++ [0xFA#8] : List Byte).length ≠ 6 + field ([0x00#8] ++ [0xFA#8]) 0 2 ∧
    (linked fun p => { p with receiver := .receiving w }).plantLink.receiver = .receiving w ∧
    (w ++ [0x00#8]).length = 6 + field (w ++ [0x00#8]) 0 2 ∧
    crcBytes ((w ++ [0x00#8]).take 4) ≠ (w ++ [0x00#8]).drop 4 := by decide +kernel

theorem linkFree_free : linkFree free := by unfold linkFree; decide

theorem linkFree_hall : linkFree hall := by unfold linkFree; decide +kernel

/-- A free link; a request in hand with three and with four requests waiting; a STATION ACCEPT without a body. -/
theorem witness_RequestsOnThePlantLink :
    let q : Received := { kind := 10, tag := 1, content := .request .hunt }
    let s := fun n => linked fun p => { p with inHand := some q, buffer := List.replicate n q }
    let covered := be 2 0 ++ be 1 11 ++ be 1 1
    let f := covered ++ crcBytes covered
    let m := linked fun p => { p with receiver := .receiving (f.take 5) }
    (Instr.hunt 1).request? = some (1, .hunt) ∧ linkFree free ∧
    ((s 3).powered = true ∧ (s 3).plantLink.receiver ≠ .beforeStart ∧ (s 3).plantLink.inHand.isSome = true ∧
      (s 3).plantLink.buffer.length < 4) ∧ ¬ (s 4).plantLink.buffer.length < 4 ∧
    (linkFree m ∧ m.plantLink.receiver = .receiving (f.take 5) ∧ f.take 5 ++ f.drop 5 = f ∧ f.length = 6 + field f 0 2 ∧
      crcBytes (f.take (f.length - 2)) = f.drop (f.length - 2) ∧ parseRequest 11 [] = .malformed) := by
  unfold linkFree; decide +kernel

/-- The end of a notice with a reply waiting, with a notice waiting and with nothing; the end of a reply with a notice, with
nothing, and with a request in the buffer, without and with a notice. -/
theorem witness_FrameSentChoosesTheNextFrame :
    let n : Notice := .bayEmpty 1 .filling
    let q : Received := { kind := 10, tag := 1, content := .request .hunt }
    let note : Sending := { frame := .notice n, bytes := [] }
    let reply : Sending := { frame := .reply 10 1 .taken, bytes := [] }
    let a := linked fun p => { p with sending := some note, reply := some (.reply 10 1 .taken) }
    let b := linked fun p => { p with sending := some reply, inHand := some q, notices := [n] }
    let c := linked fun p => { p with sending := some reply, inHand := some q }
    let d := linked fun p => { p with sending := some note, notices := [n] }
    let e := linked fun p => { p with sending := some note }
    let w := fun (l : List Notice) => linked fun p => { p with sending := some reply, inHand := some q, buffer := [q], notices := l }
    (a.powered = true ∧ a.plantLink.sending = some note ∧ a.plantLink.reply = some (.reply 10 1 .taken)) ∧
    (d.plantLink.sending = some note ∧ d.plantLink.reply = none ∧ d.plantLink.inHand = none ∧
      d.plantLink.notices = n :: []) ∧
    (e.plantLink.sending = some note ∧ e.plantLink.reply = none ∧ e.plantLink.notices = []) ∧
    (b.plantLink.sending = some reply ∧ b.plantLink.reply = none ∧ b.plantLink.buffer = [] ∧
      b.plantLink.notices = n :: []) ∧
    (c.plantLink.sending = some reply ∧ c.plantLink.reply = none ∧ c.plantLink.buffer = [] ∧
      c.plantLink.notices = []) ∧
    ∀ l ∈ [[], [n]], (w l).plantLink.sending = some reply ∧ (w l).plantLink.reply = none ∧
      (w l).plantLink.buffer = q :: [] ∧ (w l).plantLink.notices = l := by decide

/-- A lot, a batch and a cast that are held, and numbers at and beyond the bounds. -/
theorem witness_QueriesChangeNothing :
    linkFree hall ∧ findLot 3 hall = some (1, lot) ∧ findCast 7 (holds .curing) = some 1 ∧
    ((mixer .mixing none).batch 1 = some recd ∧ recd.id = 5 ∧ (mixer .mixing none).batch 0 = none) ∧
    ((holds .curing).castAt 1 = some (cast .curing) ∧ (holds .curing).cls (cast .curing).cls = some cls) ∧
    (mixerOfCode 1 = some .a ∧ mixerOfCode 2 = some .b ∧ mixerOfCode 0 = none ∧ mixerOfCode 3 = none) ∧
    (({ hall with orders := [queued] } : State).orders[0]? = some queued) ∧
    ((1 : Nat) ≤ 6 ∧ (6 : Nat) ≤ 6 ∧ (6 : Nat) < 7 ∧ (1 : Nat) ≤ 288 ∧ (288 : Nat) < 289) := by
  unfold linkFree; decide +kernel

/-- The empty hall holds no lot, no batch and no cast. -/
theorem witness_QueriesChangeNothing_none :
    (∀ i l, free.lot i = some l → l.number ≠ 3) ∧ (∀ k r, free.batch k = some r → r.id ≠ 5) ∧ findCast 7 free = none := by
  have hl : ∀ i, free.lot i = none := fun i => (at1_replicate 8 i none none).elim id id
  have hb : ∀ k, free.batch k = none := fun k => (at1_replicate 32 k none none).elim id id
  have hc : ∀ p, free.castAt p = none := fun p => by
    show (at1 (Vector.replicate 288 Entry.unusable) p .nonexistent).cast? = none
    rcases at1_replicate 288 p Entry.unusable .nonexistent with h | h <;> rw [h] <;> rfl
  refine ⟨fun i l h => ?_, fun k r h => ?_, List.find?_eq_none.2 fun p _ => ?_⟩
  · rw [hl] at h; cases h
  · rw [hb] at h; cases h
  · rw [hc]; decide

theorem witness_QueriesThatClear :
    linkFree hall ∧ (288 : Nat) ≤ 288 ∧ (288 : Nat) < 289 ∧ ((1 : Nat) ≤ 12 ∧ (12 : Nat) ≤ 12) ∧
    ((0 : Nat) < 1 ∨ 12 < 0) ∧ ((13 : Nat) < 1 ∨ 12 < 13) := ⟨linkFree_hall, by decide⟩

/-- Below the clock; short of the next expiry; at the next expiry; the largest value. -/
theorem witness_ClockSetMovesTheClock :
    let s := { free with clock := 10 }
    linkFree s ∧ 9 < s.clock ∧ (s.clock ≤ 59 ∧ 59 < s.minuteNext) ∧
    (s.clock ≤ 60 ∧ s.minuteNext ≤ 60) ∧ (s.clock ≤ 4294967295 ∧ s.minuteNext ≤ 4294967295) := by
  unfold linkFree; decide

theorem witness_RestartClearsTheQueues :
    linkFree hall ∧ (hall.seq .a).state = .idle ∧ (hall.seq .b).state = .idle ∧ hall.shuttle.state = .idle ∧
    hall.transit = [] ∧ (hall.aligner 12).state = .unbound ∧
    ((aligner fun a => { a with state := .mismatch }).aligner 1).state = .mismatch ∧
    ((hall.aligner 1).state ≠ .unbound ∧ (hall.aligner 1).state ≠ .mismatch) ∧
    linkFree (mixer .mixing (some .mix)) ∧
    ¬ (((mixer .mixing (some .mix)).seq .a).state = .idle ∨ ((mixer .mixing (some .mix)).seq .a).state = .lockout) := by
  unfold linkFree; decide +kernel

theorem witness_DoseComputation : (3 : Nat) ≤ 3 ∧ (450 : Nat) ≤ 450 := by decide

theorem witness_DoseChecksAndBounds :
    let d : Doses := { ash := 1, cement := 4000, water := 0, chelant := 0, mass := 15000 }
    15000 < { d with mass := 15001 }.mass ∧ (d.mass ≤ 15000 ∧ 4000 < { d with cement := 4001 }.cement) ∧
    (d.cement ≤ 4000 ∧ { d with water := -1 }.water < 0) ∧ 0 ≤ d.water ∧
    (classRanges cls = true ∧ doseRefusal (computeDoses 1 cls 0 0) = none) := by decide

/-- Class 6 free; class 0, class 7 and a field out of range; class 1 in use. -/
theorem witness_ClassSetReplacesTheRecord :
    linkFree hall ∧ (classRanges cls = true ∧ hall.cls 6 = none) ∧ classRanges { cls with cement := 99 } = false ∧
    linkFree (mixer .mixing none) ∧ ((mixer .mixing none).cls 1).isSome = true ∧
    classInUse 1 (mixer .mixing none) = true := by
  unfold linkFree; decide +kernel

theorem witness_LotsAreDefinedAndClosed :
    let full := { free with store := { free.store with lots := Vector.replicate 8 (some lot) } }
    let shut := write (.lot 1 (some { lot with state := .closed 1 })) free
    linkFree hall ∧ (findLot 65535 hall = none ∧ freeLot hall = some 2) ∧
    ((450 : Nat) < 451 ∧ (3 : Nat) < 4 ∧ (0 : Nat) < 1 ∧ (65535 : Nat) < 65536) ∧
    (linkFree (mixer .mixing none) ∧ findLot 3 (mixer .mixing none) = some (1, lot) ∧ 0 < lotUses 3 (mixer .mixing none)) ∧
    (findLot 3 hall = some (1, lot) ∧ lotUses 3 hall = 0 ∧ lot.state = .opened) ∧
    (linkFree full ∧ findLot 4 full = none ∧ freeLot full = none) ∧
    (linkFree shut ∧ findLot 3 shut = some (1, { lot with state := .closed 1 }) ∧ lotUses 3 shut = 0) := by
  unfold linkFree; decide +kernel

/-- Of eight OPEN lots none has a rank. -/
theorem witness_LotsAreDefinedAndClosed_ranks :
    ∀ j, rankOf j { free with store := { free.store with lots := Vector.replicate 8 (some lot) } } = none := by
  intro j
  unfold rankOf State.lot
  rcases at1_replicate 8 j (some lot) none with h | h <;> rw [h] <;> rfl

/-- Seven OPEN lots and one CLOSED: no entry is free, and no other entry has a rank. -/
theorem witness_LotsAreDefinedAndClosed_reclaimed :
    let v := Vector.replicate 8 (some lot)
    let s := { free with store := { free.store with lots := put1 v 8 (some { lot with state := .closed 1 }) } }
    (findLot 4 s = none ∧ freeLot s = none ∧ rankOf 8 s = some 1) ∧ ∀ j k, j ≠ 8 → rankOf j s = some k → 1 < k := by
  refine ⟨by decide, fun j k hj h => ?_⟩
  have e : at1 (put1 (Vector.replicate 8 (some lot)) 8 (some { lot with state := .closed 1 })) j none =
      at1 (Vector.replicate 8 (some lot)) j none := by
    cases j with
    | zero => rfl
    | succ i => simp only [put1, at1]; rw [Vector.getElem?_setIfInBounds_ne (by omega)]
  unfold rankOf State.lot at h
  rw [e] at h
  rcases at1_replicate 8 j (some lot) none with h' | h' <;> rw [h'] at h <;> cases h

/-- No mixer IDLE with fifteen orders queued; the hall with nothing queued, where the order is startable. -/
theorem witness_AcceptedOrderJoinsTheTail :
    let s := { withSeq .b (fun q => { q with state := .lockout }) (mixer .mixing none) with
      orders := List.replicate 15 { queued with number := 8 } }
    let r := { order with order := 10 }
    (linkFree s ∧ s.orders.length < 16 ∧ orderInUse r.order s = false ∧ openLot r.lot s = some lot ∧
      s.cls r.cls = some cls ∧ choiceOfCode r.mixerChoice = some .any ∧ orderRanges r = true ∧
      doseRefusal (computeDoses r.count cls lot.moisture lot.band) = none ∧
      (s.seq .a).state ≠ .idle ∧ (s.seq .b).state ≠ .idle) ∧
    (linkFree hall ∧ hall.orders = [] ∧ orderInUse r.order hall = false ∧ openLot r.lot hall = some lot ∧
      hall.cls r.cls = some cls ∧
      startable (orderRecord r .any (computeDoses r.count cls lot.moisture lot.band)) hall = some (.a, 1, [1])) := by
  unfold linkFree; decide +kernel

/-- A full queue; a number queued; an unknown lot; an UNDEFINED class; a count out of range; a batch above the scale. -/
theorem witness_OrderPostChecksInOrder :
    let full := { hall with orders := List.replicate 16 queued }
    let dup := { hall with orders := [queued] }
    (linkFree full ∧ 16 ≤ full.orders.length) ∧
    (linkFree dup ∧ dup.orders.length < 16 ∧ orderInUse order.order dup = true) ∧
    (linkFree hall ∧ hall.orders.length < 16 ∧ orderInUse order.order hall = false ∧ openLot 4 hall = none) ∧
    (openLot 3 hall = some lot ∧ hall.cls 2 = none) ∧ hall.cls 1 = some cls ∧
    orderRanges { order with count := 25 } = false ∧ orderRanges { order with count := 24 } = true ∧
    doseRefusal (computeDoses 24 cls lot.moisture lot.band) = some .overMixer := by
  unfold linkFree; decide +kernel

theorem witness_OrderWithdrawRemovesAQueuedOrder :
    let s := { hall with orders := [queued] }
    (linkFree s ∧ s.orders.find? (fun x => decide (x.number = 9)) = some queued) ∧
    (linkFree (mixer .mixing none) ∧ (∀ x ∈ (mixer .mixing none).orders, x.number ≠ 9) ∧
      0 < countRunning (fun r => decide (r.order = some 9)) (mixer .mixing none)) ∧
    (linkFree hall ∧ (∀ x ∈ hall.orders, x.number ≠ 9) ∧
      countRunning (fun r => decide (r.order = some 9)) hall = 0) := by
  unfold linkFree; decide +kernel

theorem witness_AStartUsesAnIdleMixerAndFreePositions :
    walk { queued with number := 1 } hall = [1, 2] ∧ hall.entry 1 = .free ∧
    ((mixer .mixing none).batch 1).map (·.id) = some 5 ∧
    (mixerFor .a hall = some .a ∧ hall.batch 1 = none ∧ (walk queued hall).length = queued.count) ∧
    startable queued hall = some (.a, 1, [1, 2]) ∧
    (startable queued (bayIn .empty) = some (.a, 1, [1, 2]) ∧ (bayIn .empty).bayState (bayOf 1) = .empty ∧
      ((bayIn .empty).settings (bayOf 1)).autoSeal = false) := by decide +kernel

/-- The limits of ash, 990 and 1010 for a target of 1000: below, at and above them, with and without the top-up mark. -/
theorem witness_DeliveriesAreJudged :
    let s := dosing .ash
    s.powered = true ∧ delivering .a .water s = false ∧
    (delivering .a .ash s = true ∧ targetOf .a .ash s = 1000 ∧ (s.seq .a).dosed + 989 < 990 ∧ (s.seq .a).topUp = false) ∧
    (let u := withSeq .a (fun q => { q with topUp := true }) s;
      delivering .a .ash u = true ∧ (u.seq .a).topUp = true ∧ holdable (u.seq .a).state = true ∧ (u.station .a).fill = none) ∧
    (1000 + 1000 * 10 / 1000 < (s.seq .a).dosed + 1011) ∧
    (1000 - 1000 * 10 / 1000 ≤ (s.seq .a).dosed + 990 ∧ (s.seq .a).dosed + 1010 ≤ 1000 + 1000 * 10 / 1000) ∧
    batchOf .a s = some (1, recd) ∧
    stepped .a s = false ∧ stepped .a (batch { recd with stepped := true } id) = true := by decide +kernel

/-- The cement band, 396..412 for a target of 400. -/
theorem witness_CementIsWeighedAndDischarged :
    let s := { dosing .weighing with arbiter := { holder := some .a, waiting := [.b], onScale := 0 } }
    let d := dosing .discharge
    s.powered = true ∧ hall.arbiter.holder = none ∧ s.arbiter.holder = some .a ∧ delivering .a .weighing s = true ∧
    targetOf .a .cement s = 400 ∧ (s.seq .a).cementInDrum + (s.arbiter.onScale + 396) = 400 - 400 * 10 / 1000 ∧
    400 + 400 * 30 / 1000 = 412 ∧ (s.seq .a).topUp = false ∧ holdable (s.seq .a).state = true ∧
    (s.station .a).fill = none ∧
    (delivering .a .discharge d = true ∧ (d.seq .a).pendingHold = none ∧ stepped .a d = false) ∧
    delivering .a .discharge s = false ∧
    (withSeq .a (fun q => { q with pendingHold := some { cause := .operator, component := none } }) d |>.seq .a).pendingHold =
      some { cause := .operator, component := none } ∧
    batchOf .a d = some (1, recd) ∧ s.arbiter.waiting = .b :: [] ∧ hall.arbiter.waiting = [] := by decide +kernel

theorem witness_MixTimerExpiryLeadsToThePour :
    let s := withSeq .a (fun q => { q with mixTimer := some 5 }) (mixer .mixing (some .mix))
    (s.powered = true ∧ due (later 5 s).oscillator (s.seq .a).mixTimer = true ∧
      due (later 4 s).oscillator (s.seq .a).mixTimer = false ∧ stepped .a s = false) ∧
    (hall.seq .a).mixTimer = none ∧ stepped .a (batch { recd with stepped := true } id) = true ∧
    (poured .a s < castCount .a s ∧ classField .a (·.castMass) s / 2 ≤ contents .a s ∧ (s.station .a).tagWrite = none ∧
      placeFree s = true ∧ s.spaceList = []) := by decide +kernel

/-- The saved stages; chelant to dose, water only, and neither, stepped and not; the pot life not started and running. -/
theorem witness_MixerStepEntersTheSavedStage :
    let s := withSeq .a (fun q => { q with saved := some (.stage .liquids) }) (mixer .stepWait none)
    let e := withSeq .a (fun q => { q with saved := some .batchEnd }) (mixer .stepWait none)
    let w := { recd with targets := { recd.targets with chelant := 0 } }
    let n := { w with targets := { w.targets with water := 0 } }
    (linkFree s ∧ mixerOfCode 1 = some .a ∧ mixerOfCode 0 = none ∧ mixerOfCode 3 = none) ∧
    ((s.seq .a).state = .stepWait ∧ (s.seq .a).saved = some (.stage .liquids)) ∧
    (linkFree e ∧ (e.seq .a).state = .stepWait ∧ (e.seq .a).saved = some .batchEnd) ∧
    (linkFree hall ∧ (hall.seq .a).state ≠ .stepWait) ∧ s.arbiter = Arbiter.idle ∧
    (poured .a s < castCount .a s ∧ classField .a (·.castMass) s / 2 ≤ contents .a s ∧ (s.station .a).tagWrite = none ∧
      placeFree s = true ∧ s.spaceList = []) ∧
    (targetOf .a .chelant s ≠ 0 ∧ targetOf .a .water s ≠ 0 ∧ (s.seq .a).potLife = .running 5000) ∧
    (batchOf .a (batch w id) = some (1, w) ∧ targetOf .a .chelant (batch w id) = 0 ∧ targetOf .a .water (batch w id) ≠ 0 ∧
      ((batch w id).seq .a).potLife = .notStarted) ∧
    (batchOf .a (batch n id) = some (1, n) ∧ targetOf .a .chelant (batch n id) = 0 ∧ targetOf .a .water (batch n id) = 0 ∧
      n.stepped = false) ∧ { n with stepped := true }.stepped = true := by
  unfold linkFree; decide +kernel

theorem witness_HoldLaunchFollowsTable :
    ((dosing .weighing).seq .a).delivery.map (·.channel) = some .weighing ∧
    ((mixer .mixing none).seq .a).delivery = none := by decide +kernel

theorem witness_CausesLaunchHolds :
    let m := mixer .mixing (some .mix)
    let f := pouring fun x => { x with fill := some 1000 }
    let w := pouring fun x => { x with spaceWait := some 5 }
    let c := pouring fun x => { x with moldCall := some 5 }
    let on := withSeq .a (fun q => { q with overloadInput := true }) m
    (linkFree m ∧ mixerOfCode 1 = some .a ∧ holdable (m.seq .a).state = true ∧ inFlight .a m = false ∧
      (m.seq .a).overloadInput = false) ∧
    (linkFree f ∧ holdable (f.seq .a).state = true ∧ inFlight .a f = true ∧ (f.seq .a).pendingHold = none ∧
      (f.seq .a).overloadInput = false) ∧
    (let p := withSeq .a (fun q => { q with pendingHold := some { cause := .operator, component := none } }) f
     holdable (p.seq .a).state = true ∧ inFlight .a p = true ∧ (p.seq .a).pendingHold ≠ none) ∧
    (linkFree hall ∧ holdable (hall.seq .a).state = false ∧ mixerOfCode 0 = none) ∧
    (∀ ch ∈ [Channel.ash, .weighing, .chelant, .water], ((dosing ch).seq .a).delivery.map (·.channel) = some ch ∧
      ((dosing ch).seq .a).delivery.map (·.limit) = some (some 300) ∧
      due (later 300 (dosing ch)).oscillator (some 300) = true ∧ due (later 299 (dosing ch)).oscillator (some 300) = false ∧
      holdable ((dosing ch).seq .a).state = true ∧ inFlight .a (dosing ch) = false) ∧
    ((dosing .discharge).seq .a).delivery.map (·.channel) = some .discharge ∧ (m.seq .a).delivery = none ∧
    (on.seq .a).overloadInput = true ∧
    (holdable (w.seq .a).state = true ∧ inFlight .a w = false ∧
      due (later 5 w).oscillator (w.station .a).spaceWait = true ∧ due (later 4 w).oscillator (w.station .a).spaceWait = false) ∧
    (holdable (c.seq .a).state = true ∧ inFlight .a c = false ∧
      due (later 5 c).oscillator (c.station .a).moldCall = true ∧ due (later 4 c).oscillator (c.station .a).moldCall = false) ∧
    (m.station .a).spaceWait = none ∧ (m.station .a).moldCall = none ∧ m.powered = true := by
  unfold linkFree; decide +kernel

theorem witness_LockoutAndDischarging :
    let h := held .mix
    let f := pouring fun x => { x with fill := some 1000 }
    (h.powered = true ∧ (h.seq .a).hold.isSome = true ∧ (h.seq .a).potLife = .running 5000 ∧ (h.seq .a).state = .held ∧
      (h.seq .a).overloadInput = false ∧ (h.seq .a).batch = some { slot := 1, id := 5 }) ∧
    (∀ st ∈ [MixerState.charging, .mixing, .stepWait], ((mixer st none).seq .a).potLife = .running 5000 ∧
      ((mixer st none).seq .a).state = st) ∧
    (((pouring id).seq .a).state = .pouring ∧ ((pouring id).station .a).fill = none) ∧
    ((f.seq .a).potLife = .running 5000 ∧ (f.seq .a).state = .pouring ∧ (f.station .a).fill.isSome = true) ∧
    (due (later 5000 h).oscillator (h.seq .a).potLife.expiry? = true ∧
      due (later 4999 h).oscillator (h.seq .a).potLife.expiry? = false) ∧
    (hall.seq .a).potLife = .notStarted ∧ (linkFree h ∧ linkFree hall ∧ mixerOfCode 1 = some .a) := by
  unfold linkFree; decide +kernel

/-- Mixer A HELD in a stage with a component in course, dosed so far, and a cause that names it. -/
def heldAt (st : Stage) (c : Option Component) (dosed : Nat) (cause : HoldCause) : State :=
  withSeq .a (fun q =>
    { q with
      hold := some { cause := cause, component := c, stage := st, dosed := some dosed, poured := 0, time := 0 }
      component := c, dosed := dosed }) (held st)

/-- Each component short of its target, at it, at the top of its band, and above it after an OVERDOSE and after another
cause. -/
theorem witness_MixerResumeGoesBackIntoItsStage_doses :
    ∀ x ∈ [(Stage.ash, Component.ash, 1000, 10), (.liquids, .chelant, 20, 50), (.liquids, .water, 300, 15)],
      ∀ cause ∈ [HoldCause.overdose, .operator], ∀ dosed ∈ [0, x.2.2.1 - 1, x.2.2.1, x.2.2.1 + x.2.2.1 * x.2.2.2 / 1000 + 1],
        let s := heldAt x.1 (some x.2.1) dosed cause
        (s.seq .a).component = some x.2.1 ∧ targetOf .a x.2.1 s = x.2.2.1 ∧ (s.seq .a).dosed = dosed ∧
        (s.seq .a).overloadInput = false ∧ (s.seq .a).batch = some { slot := 1, id := 5 } ∧
        (s.station .a).fill = none ∧ (s.seq .a).delivery = none ∧ s.arbiter.holder = none ∧
        targetOf .a .water s ≠ 0 ∧ stepped .a s = false := by decide +kernel

/-- A HELD mixer and one that is not; each stage at launch; the scale free and with the other mixer; a cast to pour with a
place free, and the last cast poured, stepped and not; the overload input asserted. -/
theorem witness_MixerResumeGoesBackIntoItsStage :
    let h := held .mix
    let p := held .pour
    let c := held .cement
    let w := { c with arbiter := { holder := some .b, waiting := [], onScale := 0 } }
    let poured2 := fun (x : BatchRecord) => batch { x with poured := 2, live := 2 } fun q => { q with state := .held }
    let on := withSeq .a (fun q => { q with overloadInput := true }) p
    (linkFree h ∧ mixerOfCode 1 = some .a ∧ mixerOfCode 0 = none ∧ mixerOfCode 3 = none ∧ (h.seq .a).state = .held ∧
      (h.seq .a).hold.isSome = true) ∧
    (linkFree hall ∧ (hall.seq .a).state ≠ .held) ∧
    ((h.seq .a).overloadInput = false ∧ (h.seq .a).batch = some { slot := 1, id := 5 } ∧
      (h.seq .a).hold.map (·.stage) = some .mix) ∧
    (((heldAt .liquids none 0 .operator).seq .a).component = none ∧
      targetOf .a .chelant (heldAt .liquids none 0 .operator) ≠ 0) ∧
    ((c.seq .a).hold.map (·.stage) = some .cement ∧ c.arbiter.holder = none ∧
      w.arbiter.holder = some (otherMixer .a) ∧ .a ∉ w.arbiter.waiting) ∧
    ((p.seq .a).hold.map (·.stage) = some .pour ∧ poured .a p < castCount .a p ∧
      classField .a (·.castMass) p / 2 ≤ contents .a p ∧ (p.station .a).tagWrite = none ∧ placeFree p = true ∧
      p.spaceList = []) ∧
    (poured .a (poured2 recd) = castCount .a (poured2 recd) ∧ stepped .a (poured2 recd) = false ∧
      (poured2 recd).orders = [] ∧ 0 < contents .a (poured2 recd) ∧
      stepped .a (poured2 { recd with stepped := true }) = true) ∧
    ((on.seq .a).overloadInput = true ∧ (on.station .a).fill = none ∧ (on.seq .a).delivery = none) := by
  unfold linkFree; decide +kernel

/-- Casts of the batch: placed, in TRANSIT, assessed, and of another batch. -/
theorem witness_MixerResumeGoesBackIntoItsStage_casts :
    (batchOf .a (holds .held)).isSome = true ∧ (holds .held).castAt 1 = some (cast .held) ∧
    (cast .held).slot = 1 ∧ (cast .held).batch = recd.id ∧ (cast .held).flags.assessed = false ∧
    (cast .held).state.credited = true ∧ (cast .transit).state.credited = false ∧
    (holds .transit).castAt 1 = some (cast .transit) ∧
    { CastFlags.empty with assessed := true }.assessed = true ∧ { cast .held with batch := 6 }.batch ≠ recd.id ∧
    ({ recd with live := 1, poured := 1 } : BatchRecord).live ≠ 0 := by decide +kernel

/-- The input asserted at a resume of every stage: short of a target, accepted as the last component of its stage, above the
band after another cause, and a POUR with no cast left. -/
theorem witness_MixerResumeGoesBackIntoItsStage_asserted :
    let on := withSeq .a (fun q => { q with overloadInput := true })
    (∀ st ∈ [Stage.ash, .cement, .liquids, .mix, .pour],
      let s := on (held st)
      (s.seq .a).overloadInput = true ∧ (s.station .a).fill = none ∧ (s.seq .a).delivery = none ∧ st ≠ .discharging ∧
      (s.seq .a).batch = some { slot := 1, id := 5 } ∧ (s.seq .a).hold.map (·.stage) = some st ∧
      (s.seq .a).hold.map (·.cause) ≠ some .overdose) ∧
    (∀ dosed ∈ [0, 300, 320],
      let s := on (heldAt .liquids (some .water) dosed .operator)
      (s.seq .a).component = some .water ∧ targetOf .a .water s = 300 ∧ (s.seq .a).dosed = dosed ∧
      (s.seq .a).overloadInput = true ∧ (s.station .a).fill = none ∧ (s.seq .a).delivery = none) ∧
    (let s := on (heldAt .liquids (some .chelant) 20 .operator)
     (s.seq .a).component = some .chelant ∧ targetOf .a .chelant s = 20 ∧ targetOf .a .water s ≠ 0 ∧
      (s.seq .a).overloadInput = true) := by decide +kernel

/-- R53: a resume above the band (R71 (4)) and a resume of a POUR with no cast left, with the input asserted: the mixer is
HELD again with MOTOR_OVERLOAD in the stage at launch, its batch running (log 25). -/
theorem test_asserted_input_holds_again :
    (let s := withSeq .a (fun q => { q with overloadInput := true }) (heldAt .liquids (some .water) 320 .operator)
     let t := next (.mixerResume 0 1) s
     (t.seq .a).state = .held ∧ (t.seq .a).hold.map (·.cause) = some .motorOverload ∧
      (t.seq .a).hold.map (·.stage) = some .liquids ∧ (t.seq .a).lockout = none) ∧
    (let s := withSeq .a (fun q => { q with overloadInput := true })
       (writeBatch 1 (some { recd with poured := 2, live := 2 }) (held .pour))
     let t := next (.mixerResume 0 1) s
     (t.seq .a).state = .held ∧ (t.seq .a).hold.map (·.cause) = some .motorOverload ∧
      (t.seq .a).hold.map (·.stage) = some .pour ∧ (t.batch 1).map (·.endTime) = some none) := by decide +kernel

/-- A resumed OVERDOSE of the water in course: accepted as dosed, and the batch and its cast take the deviation. -/
theorem test_resumed_overdose_is_recorded :
    let s := withSeq .a (fun q =>
      { q with
        state := .held, blocked := true, component := some .water, dosed := 320
        hold := some { cause := .overdose, component := some .water, stage := .liquids, dosed := some 320, poured := 0, time := 0 } })
      (holds .curing)
    let t := (mixerResume 1 s).1
    (t.batch 1).map (·.doseDeviation) = some true ∧ (t.castAt 1).map (·.causes.dose) = some true ∧
    (t.castAt 1).map (·.state) = some .held ∧ (t.seq .a).state = .mixing := by decide +kernel

/-- A running batch, one that has ended and a mixer without one; live casts and none; a placeholder. -/
theorem witness_MixersReturnToIdle :
    let r := { recd with live := 1, poured := 1 }
    let ended := { r with endTime := some 9 }
    let lost := fun (x : BatchRecord) => batch x fun q => { q with state := .lockout }
    let d := batch r fun q =>
      { q with state := .discharging, delivery := some { channel := .reject, amount := 9, limit := none } }
    let l := lost r
    (linkFree l ∧ l.orders = [] ∧ batchOf .a l = some (1, r) ∧ r.endTime = none ∧ l.batch 1 = some r ∧ r.live ≠ 0 ∧
      mixerOfCode 1 = some .a ∧ (l.seq .a).state = .lockout) ∧
    (linkFree (lost ended) ∧ batchOf .a (lost ended) = some (1, ended) ∧ ended.endTime.isSome = true) ∧
    batchOf .a hall = none ∧ (lost recd).batch 1 = some recd ∧ recd.live = 0 ∧
    (lost { r with damaged := true, reservation := [] }).entry 1 = .reserved 1 r.id ∧
    (linkFree d ∧ batchOf .a d = some (1, r) ∧ (d.seq .a).state ≠ .lockout ∧ d.powered = true ∧
      delivering .a .reject d = true) ∧ delivering .a .reject l = false := by
  unfold linkFree; decide +kernel

/-- A call open and none; one attempt and two; one unreadable mold before and two; a mold of the pattern, one that is USED
and one of another type. -/
theorem witness_MoldsAreReadAndJudged :
    let c := pouring fun x => { x with moldCall := some 9 }
    let r := pouring fun x => { x with step := .read, readAttempts := 2, unreadable := 2 }
    (c.powered = true ∧ (c.station .a).moldCall.isSome = true ∧ (r.station .a).moldCall = none ∧
      (c.station .a).step ≠ .read) ∧
    ((r.station .a).step = .read ∧ 2 ≤ (r.station .a).readAttempts ∧ 3 ≤ (r.station .a).unreadable + 1 ∧
      holdable (r.seq .a).state = true ∧ inFlight .a r = false) ∧
    (let u := pouring fun x => { x with step := .read, readAttempts := 1, unreadable := 1 };
      (u.station .a).step = .read ∧ (u.station .a).readAttempts < 2 ∧ (u.station .a).unreadable + 1 < 3) ∧
    classOf .a r = some cls ∧ Nat.land 33 cls.moldMask = Nat.land cls.moldMatch cls.moldMask ∧
    Nat.land 16 cls.moldMask ≠ Nat.land cls.moldMatch cls.moldMask := by decide +kernel

/-- A fill that ends with nothing pending; with a pending expiry; with a pending hold; the last cast. -/
theorem witness_FillCompletionCreatesTheCast :
    let f := pouring fun x => { x with fill := some 1000 }
    let p := withSeq .a (fun q => { q with pendingExpiry := true }) f
    let h := withSeq .a (fun q => { q with pendingHold := some { cause := .operator, component := none } }) f
    let one := { recd with poured := 1, live := 1 }
    let last := withStation .a (fun x => { x with fill := some 1000 }) (batch one fun q => { q with state := .pouring })
    (f.powered = true ∧ (f.station .a).fill = some 1000 ∧ batchOf .a f = some (1, recd) ∧
      nextPosition 1 recd f = some 1 ∧ f.bayState (bayOf 1) ≠ .empty ∧ (f.seq .a).pendingExpiry = false ∧
      (f.seq .a).pendingHold = none ∧ recd.poured + 1 ≠ recd.reservation.length) ∧
    ((p.seq .a).pendingExpiry = true ∧ (h.seq .a).pendingHold = some { cause := .operator, component := none }) ∧
    ((last.station .a).fill = some 1000 ∧ batchOf .a last = some (1, one) ∧ one.poured + 1 = one.reservation.length ∧
      (last.seq .a).state = .pouring ∧ last.orders = [] ∧ (nextPosition 1 one last).isSome = true) := by decide +kernel

/-- The end of POUR of a stepped batch and of another; with contents left and none; with every cast poured and not; with a
position still reserved and none; with live casts and none. -/
theorem witness_FillCompletionCreatesTheCast_ends :
    let all := { recd with poured := 2, live := 2, reservation := [] }
    let b := batch recd fun q => { q with state := .pouring }
    let e := batch recd fun q => { q with state := .pouring, fillsTotal := 1720 }
    (batchOf .a b = some (1, recd) ∧ recd.stepped = false ∧ { recd with stepped := true }.stepped = true) ∧
    (0 < recd.actuals.total - (b.seq .a).fillsTotal ∧ recd.actuals.total - (e.seq .a).fillsTotal = 0) ∧
    (b.orders = [] ∧ recd.live = 0 ∧ all.live ≠ 0 ∧ recd.poured ≠ recd.reservation.length ∧
      b.entry 1 = .reserved 1 recd.id ∧ 1 ∈ recd.reservation) ∧
    (batchOf .a (batch all id) = some (1, all) ∧ all.damaged = false ∧
      ∀ p ∈ all.reservation, (batch all id).entry p ≠ .reserved 1 all.id) := by decide +kernel

/-- The end of POUR short of N: the slot of a batch with no live cast is freed, its positions are FREE, and the contents go. -/
theorem test_short_batch_ends :
    let t := finishBatch .a (batch recd fun q => { q with state := .pouring })
    t.batch 1 = none ∧ t.entry 1 = .free ∧ t.entry 2 = .free ∧ (t.seq .a).state = .discharging ∧
    (t.seq .a).delivery = some { channel := .reject, amount := 1720, limit := none } := by decide +kernel

/-- A write under way in step WRITE and out of it, none, and one whose cast is gone; a mixer that is not POURING, one with a
cast left, with enough contents and too little, with a place free and with another station waiting. -/
theorem witness_TagWriteResultMarksTheEntry :
    let writing := fun (x : State) => withStation .a (fun y => { y with tagWrite := some 7, step := .write }) x
    let s := writing (holds .transit)
    let p := withSeq .a (fun q => { q with state := .pouring }) s
    let low := withSeq .a (fun q => { q with fillsTotal := 1300 }) p
    (s.powered = true ∧ (s.station .a).tagWrite = some 7 ∧ findCast 7 s = some 1 ∧ s.castAt 1 = some (cast .transit) ∧
      (s.seq .a).state ≠ .pouring ∧ (s.station .a).step = .write ∧ (hall.station .a).tagWrite = none) ∧
    ((withStation .a (fun y => { y with step := .none }) s).station .a).step ≠ .write ∧
    findCast 7 (writing (mixer .pouring (some .pour))) = none ∧
    ((p.seq .a).state = .pouring ∧ poured .a p < castCount .a p ∧ classField .a (·.castMass) p / 2 ≤ contents .a p ∧
      placeFree p = true ∧ p.spaceList = []) ∧
    { p with spaceList := [.b] }.spaceList ≠ [] ∧
    contents .a low < classField .a (·.castMass) low / 2 := by decide +kernel

/-- FAULTED with the door closed and open; IDLE with a head written and not, and a tag write under way; waiting at the door
before and at the end of the wait; MOVING, alone and with another entry behind. -/
theorem witness_ShuttlePlacesTheHeadCast :
    let e : TransitEntry := { cast := 7, position := 1, station := .a, written := true }
    let f := moving .faulted
    let open1 := withBay 1 (fun b => { b with door := .opened }) f
    let w := { moving .waitingDoor with shuttle := { state := .waitingDoor, doorWait := some 90 } }
    let behind := { moving .moving with transit := [e, { e with cast := 8, position := 2 }] }
    let tag := withStation .a (fun x => { x with tagWrite := some 7 }) (moving .idle)
    (linkFree f ∧ f.powered = true ∧ f.transit = e :: [] ∧ f.shuttle.state = .faulted ∧ (f.bay (bayOf 1)).door ≠ .opened) ∧
    (linkFree open1 ∧ open1.shuttle.state = .faulted ∧ (open1.bay (bayOf 1)).door = .opened) ∧
    (linkFree (moving .idle) ∧ (moving .idle).shuttle.state = .idle ∧ e.written = true ∧
      { e with written := false }.written = false) ∧
    ((tag.station .a).tagWrite = some e.cast ∧ findCast e.cast tag = some 1) ∧
    (w.shuttle.state = .waitingDoor ∧ due (later 90 w).oscillator w.shuttle.doorWait = true ∧
      due (later 89 w).oscillator w.shuttle.doorWait = false) ∧
    ((moving .moving).shuttle.state = .moving ∧ (moving .moving).castAt 1 = some (cast .transit)) ∧
    behind.transit = e :: { e with cast := 8, position := 2 } :: [] := by
  unfold linkFree; decide +kernel

/-- Each status of a position; positions and codes at and beyond the bounds; a full FILLING bay with auto-seal set, that
awaits a cast and that does not, with its door shown CLOSED and not. -/
theorem witness_BayMarkMarksPositions :
    let gone := writeEntry 3 .nonexistent hall
    let full := writeSettings 1 { hall.settings 1 with autoSeal := true } (writeEntry 2 .unusable hall)
    let awaits := writeEntry 2 (.reserved 1 5) full
    let shut := withBay 1 (fun c => { c with door := .closed }) full
    (linkFree hall ∧ hall.bayState (bayOf 1) ≠ .absent ∧ hall.entry 1 = .free ∧
      (hall.settings (bayOf 1)).autoSeal = false) ∧
    (hall.entry 3 = .unusable ∧ hall.orders = [] ∧ gone.entry 3 = .nonexistent ∧ gone.bayState (bayOf 3) = .filling) ∧
    (linkFree (holds .curing) ∧ (holds .curing).bayState (bayOf 1) ≠ .absent ∧
      (((holds .curing).entry 1).isReserved || ((holds .curing).entry 1).isOccupied) = true ∧
      (((holds .curing).entry 2).isReserved || ((holds .curing).entry 2).isOccupied) = true) ∧
    (∀ s ∈ [full, awaits, shut], s.bayState (bayOf 1) = .filling ∧ s.entry 1 = .free ∧
      (s.settings (bayOf 1)).autoSeal = true ∧ bayAny Entry.isFree 1 (writeEntry 1 .unusable s) = false) ∧
    (bayAwaits 1 (writeEntry 1 .unusable full) = false ∧ (full.bay 1).door ≠ .closed ∧
      bayAwaits 1 (writeEntry 1 .unusable awaits) = true ∧ bayAwaits 1 (writeEntry 1 .unusable shut) = false ∧
      (shut.bay 1).door = .closed) ∧
    (hall.bayState (bayOf 288) = .absent ∧ bayOf 24 = 1 ∧ bayOf 25 = 2) ∧
    (¬ (1 ≤ 0 ∧ 0 ≤ 288) ∧ ¬ (1 ≤ 289 ∧ 289 ≤ 288) ∧ ¬ ((1 : Nat) = 2 ∨ (1 : Nat) = 3) ∧ ¬ ((4 : Nat) = 2 ∨ (4 : Nat) = 3)) := by
  unfold linkFree; decide +kernel

/-- A request that passes, at both ends of the ranges; ranges and fill orders that do not; a bay that is not EMPTY and one
with a RESERVED position; a station bound, and the line free. -/
theorem witness_BaySetReplacesSettingsAndGeometry :
    let s := bayIn .empty
    let idle := { s with stationLink := { s.stationLink with exchange := none } }
    let taken := writeEntry 1 (.reserved 1 5) s
    linkFree s ∧ s.orders = [] ∧ bayRanges bayRequest = true ∧ fillOrderGood bayRequest = true ∧
    bayRanges { bayRequest with levels := 1, slots := 1, period := 10, cutLimit := 2 } = true ∧ s.bayState 1 = .empty ∧
    (∀ p ∈ bayPositions 1, s.entry p = .free ∨ s.entry p = .unusable ∨ s.entry p = .nonexistent) ∧
    (¬ (1 ≤ 0 ∧ 0 ≤ 12) ∧ ¬ (1 ≤ 13 ∧ 13 ≤ 12) ∧ ¬ (10 ≤ 601 ∧ 601 ≤ 600) ∧ ¬ (2 ≤ 61 ∧ 61 ≤ 60)) ∧
    (¬ [1, 1].Perm (defaultFillOrder 1 1 2) ∧ [2, 1].Perm (defaultFillOrder 1 1 2)) ∧
    (hall.bayState 1 ≠ .empty ∧ bayReserved 1 taken = true ∧ taken.bayState 1 = .empty) ∧
    (idle.binding 1 = some { address := 1, serial := 77 } ∧ (idle.aligner 1).state ≠ .unbound ∧
      idle.stationLink.exchange = none ∧ (idle.aligner 1).lateTimer = some 450) := by
  unfold linkFree; decide +kernel

/-- A bay that awaits and one that does not; a door that shows CLOSED, with the latch RELEASED and ENGAGED, and a settle
time of 0 and above; each other state; numbers of no bay. -/
theorem witness_BaySealActsByBayState :
    let p := mixer .mixing none
    let shut := fun (x : LatchFlag) => withBay 1 (fun c => { c with door := .closed, latch := x }) (bayIn .breached)
    let slow := writeSettings 1 { (shut .engaged).settings 1 with settle := 7 } (shut .engaged)
    (linkFree p ∧ p.bayState 1 = .filling ∧ bayAwaits 1 p = true) ∧
    (linkFree hall ∧ bayAwaits 1 hall = false ∧ (hall.bay 1).door ≠ .closed) ∧
    (linkFree (bayIn .breached) ∧ (bayIn .breached).bayState 1 = .breached ∧ bayAwaits 1 (bayIn .breached) = false) ∧
    (linkFree (shut .released) ∧ (shut .released).bayState 1 = .breached ∧ bayAwaits 1 (shut .released) = false ∧
      ((shut .released).bay 1).door = .closed ∧ ((shut .released).bay 1).latch ≠ .engaged) ∧
    (linkFree (shut .engaged) ∧ bayAwaits 1 (shut .engaged) = false ∧ ((shut .engaged).bay 1).door = .closed ∧
      ((shut .engaged).bay 1).latch = .engaged ∧ ((shut .engaged).settings 1).settle = 0) ∧
    (slow.bayState 1 = .breached ∧ bayAwaits 1 slow = false ∧ (slow.bay 1).door = .closed ∧
      (slow.bay 1).latch = .engaged ∧ (slow.settings 1).settle ≠ 0) ∧
    (∀ st ∈ [BayState.sealing, .unsealing, .empty, .sealPending, .sealed, .unloading], (bayIn st).bayState 1 = st) ∧
    hall.bayState 12 = .absent ∧ ((0 : Nat) < 1 ∧ (12 : Nat) < 13) := by
  unfold linkFree; decide +kernel

/-- A cool-down of 120 s and of 0; a BREACHED bay whose latch and door show neither, the latch, and both; each other state. -/
theorem witness_BayUnsealStartsUnsealing :
    let quick := writeSettings 1 { (bayIn .sealed).settings 1 with coolDown := 0 } (bayIn .sealed)
    let b := withBay 1 (fun c => { c with latch := .released }) (bayIn .breached)
    let both := withBay 1 (fun c => { c with latch := .released, door := .opened })
      (writeEntry 1 (.occupied (cast .curing)) (bayIn .breached))
    (linkFree (bayIn .sealed) ∧ (bayIn .sealed).bayState 1 = .sealed ∧ 0 < ((bayIn .sealed).settings 1).coolDown) ∧
    (quick.bayState 1 = .sealed ∧ (quick.settings 1).coolDown = 0 ∧ (quick.bay 1).latch ≠ .released) ∧
    (linkFree (bayIn .breached) ∧ (bayIn .breached).bayState 1 = .breached ∧
      ((bayIn .breached).bay 1).latch ≠ .released) ∧
    (b.bayState 1 = .breached ∧ (b.bay 1).latch = .released ∧ (b.bay 1).door ≠ .opened) ∧
    (both.bayState 1 = .breached ∧ (both.bay 1).latch = .released ∧ (both.bay 1).door = .opened ∧
      bayOccupied 1 both = true ∧ bayOccupied 1 (writeEntry 1 .free both) = false) ∧
    (let x := withBay 1 (fun c => { c with latch := .released }) quick
     x.bayState 1 = .sealed ∧ (x.settings 1).coolDown = 0 ∧ (x.bay 1).latch = .released) ∧
    (∀ st ∈ [BayState.sealing, .unsealing, .empty, .filling, .sealPending, .unloading], (bayIn st).bayState 1 = st) ∧
    hall.bayState 12 = .absent ∧ ((0 : Nat) < 1 ∧ (12 : Nat) < 13) := by
  unfold linkFree; decide +kernel

theorem witness_BayStepTimersAct :
    let c := bayAt .sealing .condition
    let u := bayAt .unsealing .cool
    (c.powered = true ∧ c.bayState 1 = .sealing ∧ (c.bay 1).step = some .condition) ∧
    (u.bayState 1 = .unsealing ∧ (u.bay 1).step = some .cool ∧ (u.bay 1).latch ≠ .released) ∧
    (let r := withBay 1 (fun c => { c with latch := .released }) u
     let o := withBay 1 (fun c => { c with door := .opened }) r
     r.bayState 1 = .unsealing ∧ (r.bay 1).latch = .released ∧ (r.bay 1).door ≠ .opened ∧
      o.bayState 1 = .unsealing ∧ (o.bay 1).step = some .cool ∧ (o.bay 1).latch = .released ∧ (o.bay 1).door = .opened ∧
      (bayReserved 1 o || bayOccupied 1 o) = false ∧ bayOccupied 1 (writeEntry 1 (.occupied (cast .curing)) o) = true) ∧
    ∀ st ∈ [SeqStep.unlock, .doorOpen], (bayAt .unsealing st).bayState 1 = .unsealing ∧
      ((bayAt .unsealing st).bay 1).step = some st ∧
      due (later 9 (bayAt .unsealing st)).oscillator ((bayAt .unsealing st).bay 1).deadline = true ∧
      due (later 8 (bayAt .unsealing st)).oscillator ((bayAt .unsealing st).bay 1).deadline = false := by decide +kernel

/-- A bay with a cast and one with nothing, of auto-seal clear and set; a full one with auto-seal set, that awaits a cast
and that does not, with its door shown CLOSED and not. -/
theorem witness_SealFailureReturnsToFilling :
    ∀ st ∈ [SeqStep.close, .lock],
      let s := writeEntry 1 (.occupied (cast .curing)) (bayAt .sealing st)
      let auto := writeSettings 1 { s.settings 1 with autoSeal := true } s
      let full := writeEntry 2 .unusable auto
      let awaits := writeEntry 2 (.reserved 1 5) auto
      let shut := withBay 1 (fun c => { c with door := .closed }) full
      s.powered = true ∧ s.orders = [] ∧ s.bayState 1 = .sealing ∧ (s.bay 1).step = some st ∧
      due (later 9 s).oscillator (s.bay 1).deadline = true ∧ due (later 8 s).oscillator (s.bay 1).deadline = false ∧
      (s.settings 1).autoSeal = false ∧ bayOccupied 1 s = true ∧ (s.aligner 1).state ≠ .unbound ∧
      (bayReserved 1 (bayAt .sealing st) || bayOccupied 1 (bayAt .sealing st)) = false ∧
      (∀ x ∈ [auto, full, awaits, shut], (x.settings 1).autoSeal = true ∧ x.bayState 1 = .sealing ∧ bayOccupied 1 x = true) ∧
      bayAny Entry.isFree 1 auto = true ∧
      (∀ x ∈ [full, awaits, shut], bayAny Entry.isFree 1 x = false) ∧
      bayAwaits 1 full = false ∧ (full.bay 1).door ≠ .closed ∧ bayAwaits 1 awaits = true ∧
      bayAwaits 1 shut = false ∧ (shut.bay 1).door = .closed := by decide +kernel

/-- A bound bay with a placed cast and with a TRANSIT one; the three places where a report with a RELEASED latch is a
breach. -/
theorem witness_BreachFlagsTheBaysCasts :
    (((holds .curing).aligner 1).state ≠ .unbound ∧ (holds .curing).binding 1 = some { address := 1, serial := 77 } ∧
      1 ∈ bayPositions 1 ∧ 24 ∈ bayPositions 1 ∧ 25 ∉ bayPositions 1 ∧
      (holds .curing).castAt 1 = some (cast .curing) ∧ (cast .curing).state ≠ .transit ∧
      (holds .transit).castAt 1 = some (cast .transit)) ∧
    (hall.stationLink.exchange = some (.poll (report 9 false).address) ∧ bayOfAddress 1 hall = some 1 ∧
      (hall.aligner 1).state = .locked ∧ (hall.aligner 1).expected = some (report 9 false).sequence ∧
      (report 9 false).latched = false ∧ (report 9 false).button = false) ∧
    ((bayIn .sealed).bayState 1 = .sealed ∧ ((bayAt .sealing .condition).bay 1).step = some .condition ∧
      (bayAt .sealing .condition).bayState 1 = .sealing ∧ ((bayAt .unsealing .cool).bay 1).step = some .cool ∧
      (bayAt .unsealing .cool).bayState 1 = .unsealing) := by decide +kernel

theorem witness_StandingActuationsFollowTable :
    (hall.aligner 1).state ≠ .unbound ∧ hall.binding 1 = some { address := 1, serial := 77 } ∧
    hall.bayState 1 ≠ .absent := by decide +kernel

theorem witness_HuntStartsAtAddressOne :
    (linkFree hall ∧ hall.stationLink.hunt = none ∧ hall.stationLink.exchange = some (.poll 1)) ∧
    (linkFree free ∧ free.stationLink.hunt.isSome = true) := by
  unfold linkFree; decide +kernel

theorem witness_StationAcceptAndUnbind :
    let m := aligner fun a => { a with state := .mismatch, offered := some 78 }
    let blind := withAligner 1 (fun a => { a with state := .blind }) (bayIn .empty)
    (linkFree m ∧ (m.aligner 1).state = .mismatch ∧ m.binding 1 = some { address := 1, serial := 77 } ∧
      (m.aligner 1).offered = some 78) ∧
    (linkFree hall ∧ (hall.aligner 1).state ≠ .mismatch ∧ hall.bayState 1 ≠ .empty) ∧
    (linkFree (bayIn .empty) ∧ (bayIn .empty).bayState 1 = .empty ∧ ((bayIn .empty).aligner 1).state = .locked) ∧
    (linkFree blind ∧ blind.bayState 1 = .empty ∧ (blind.aligner 1).state = .blind) ∧
    ((bayIn .empty).binding 1 = some { address := 1, serial := 77 }) ∧ ((0 : Nat) < 1 ∧ (12 : Nat) < 13) := by
  unfold linkFree; decide +kernel

/-- R103, R128: an actuation record that waits for the line is not sent to a station unbound meanwhile; one for another
station is. -/
theorem test_unbound_station_is_sent_nothing :
    let s := bayIn .empty
    let waits := [StationRecord.actuation 1 (.setPeriod 60), .actuation 2 .lock]
    let s := { s with stationLink := { s.stationLink with waitingActuations := waits } }
    s.stationLink.exchange = some (.poll 1) ∧ (next (.stationUnbind 0 1) s).bayState 1 = .absent ∧
    (next (.stationUnbind 0 1) s).stationLink.waitingActuations = [.actuation 2 .lock] := by decide +kernel

theorem witness_PollsAndAnswers :
    let s := { hall with stationLink := { hall.stationLink with exchange := none, round := [1] } }
    hall.powered = true ∧ hall.stationLink.exchange = some (.poll 1) ∧ hall.stationLink.exchange ≠ some (.poll 2) ∧
    (s.stationLink.exchange = none ∧ s.stationLink.round = 1 :: [] ∧ (bayOfAddress 1 s).isSome = true) ∧
    (probing hall).stationLink.exchange = some (.probe 1) ∧
    (let bound := fun (y : State) (a : Nat) => (bayOfAddress a y).isSome
     s.stationLink.round.filter (bound s) = [1] ∧ hall.stationLink.round.filter (bound hall) = [] ∧
      (List.range' 1 31).filter (bound hall) = [1] ∧ (List.range' 1 31).filter (bound free) = []) := by decide +kernel

/-- Addresses 30 and 31 of a hunt; the bound address with its aligner LOCKED, BLIND and MISMATCH; an address not bound with
bay 2 the lowest ABSENT one, and with no bay ABSENT. -/
theorem witness_ProbeOutcomesFollowTable :
    let s := probing hall
    let m := probing (aligner fun a => { a with state := .mismatch, offered := some 78 })
    let d := probing (aligner fun a => { a with state := .blind })
    let n := { s with stationLink := { s.stationLink with exchange := some (.probe 2) } }
    (s.powered = true ∧ s.stationLink.exchange = some (.probe 1) ∧ s.stationLink.hunt = some Hunt.first ∧
      { Hunt.first with address := 30 }.address < 31 ∧ ¬ { Hunt.first with address := 31 }.address < 31) ∧
    (bayOfAddress 1 s = some 1 ∧ s.binding 1 = some { address := 1, serial := 77 } ∧ (77 : Nat) ≠ 78 ∧
      (s.aligner 1).state = .locked) ∧
    (bayOfAddress 1 m = some 1 ∧ (m.aligner 1).state = .mismatch) ∧
    (bayOfAddress 1 d = some 1 ∧ (d.aligner 1).state = .blind) ∧
    (bayOfAddress 2 n = none ∧ n.bayState 2 = .absent ∧ n.bayState 1 ≠ .absent ∧ n.orders = []) := by decide +kernel

/-- Twelve bays, none of them ABSENT. -/
theorem witness_ProbeOutcomesFollowTable_full :
    let s := { free with store := { free.store with settings := Vector.replicate 12 (BaySettings.default 1 .filling) } }
    bayOfAddress 2 s = none ∧ ∀ j ∈ List.range' 1 12, s.bayState j ≠ .absent := by decide +kernel

/-- LOCKED with the expected sequence; SYNCING and BLIND with the sequence before it as candidate; 1 and 6 ahead; a station
fault below the cut limit and at it; a report that brings no breach; a cast placed before. -/
theorem witness_AcceptedReportsAreCredited :
    let y := aligner fun a => { a with state := .syncing, candidate := some 8 }
    let d := aligner fun a => { a with state := .blind, candidate := some 8 }
    let f := aligner fun a => { a with run := 11 }
    (hall.powered = true ∧ hall.stationLink.exchange = some (.poll (report 9 false).address) ∧
      bayOfAddress (report 9 false).address hall = some 1 ∧ (hall.aligner 1).state = .locked ∧
      (hall.aligner 1).expected = some (report 9 false).sequence ∧ (report 9 false).fault = false) ∧
    ((y.aligner 1).state = .syncing ∧ (y.aligner 1).candidate = some ((report 9 false).sequence - 1)) ∧
    ((d.aligner 1).state = .blind ∧ (d.aligner 1).candidate = some ((report 9 false).sequence - 1)) ∧
    ((report 10 false).sequence = 9 + BitVec.ofNat 4 1 ∧ (report 15 false).sequence = 9 + BitVec.ofNat 4 6) ∧
    ((report 9 true).fault = true ∧ ¬ (hall.settings 1).cutLimit ≤ min 60 ((hall.aligner 1).run + 1) ∧
      (f.settings 1).cutLimit ≤ min 60 ((f.aligner 1).run + 1)) ∧
    breachPlace (hall.bayState 1) (hall.bay 1).step = false ∧
    (let s := { holds .curing with clock := 1 };
      s.castAt 1 = some (cast .curing) ∧ (cast .curing).state.credited = true ∧ (cast .curing).placed = some 0 ∧
      0 < s.clock ∧ 1 ∈ bayPositions 1) := by decide +kernel

/-- Reports of the expected sequence at each step and place that flags act on, one that shows nothing, and a press; a shuttle
that waits at the bay's door. -/
theorem witness_AcceptedReportsAreCredited_flags :
    let r := report 9 false
    let w := withBay 1 (fun c => { c with readyWanted := true }) (bayAt .sealing .condition)
    let at1 : TransitEntry := { cast := 7, position := 1, station := .a, written := true }
    (r.sequence = 9 + BitVec.ofNat 4 0 ∧ (0 : Nat) ≤ 6 ∧ r.doorClosed = false ∧ r.latched = false ∧ r.button = false) ∧
    (∀ x ∈ [(BayState.sealing, SeqStep.close), (.sealing, .lock), (.sealing, .condition), (.unsealing, .cool),
        (.unsealing, .unlock), (.unsealing, .doorOpen)],
      let s := bayAt x.1 x.2
      s.powered = true ∧ s.stationLink.exchange = some (.poll 1) ∧ (s.aligner 1).state = .locked ∧
      (s.aligner 1).expected = some 9 ∧ s.bayState 1 = x.1 ∧ (s.bay 1).step = some x.2) ∧
    ((bayIn .sealed).bayState 1 = .sealed ∧ hall.bayState 1 = .filling) ∧
    (w.bayState 1 = .sealing ∧ (w.bay 1).step = some .condition ∧ (w.bay 1).readyWanted = true) ∧
    ((moving .waitingDoor).shuttle.state = .waitingDoor ∧ (moving .waitingDoor).transit = [at1] ∧
      bayOf at1.position = 1 ∧ (moving .waitingDoor).stationLink.exchange = some (.poll 1)) := by decide +kernel

/-- R111, R112, R116, R118: a closed door and an engaged latch take CLOSE to CONDITION; an open door ends OPEN, and a bay that
holds nothing is EMPTY; a press in SEALED raises UNLOAD REQUEST. -/
theorem test_flags_act_on_the_bay :
    (let t := next (.conditionReport { report 9 false with doorClosed := true, latched := true }) (bayAt .sealing .close)
     (t.bay 1).step = some .condition ∧ t.bayState 1 = .sealing) ∧
    (let t := next (.conditionReport (report 9 false)) (bayAt .unsealing .doorOpen)
     t.bayState 1 = .empty ∧ (t.bay 1).step = none) ∧
    (let t := next (.conditionReport { report 9 false with latched := true, button := true }) (bayIn .sealed)
     t.bayState 1 = .sealed ∧ t.plantLink.sending.map (·.frame) = some (.notice (.unloadRequest 1 0))) := by decide +kernel

/-- 7 ahead and 15 ahead of the expected sequence; the mark clear and set; a candidate not followed; a fault. -/
theorem witness_ReportOutOfPlaceIsSetAside :
    let c := aligner fun a => { a with state := .syncing, expected := none, candidate := some 3 }
    (hall.stationLink.exchange = some (.poll 1) ∧ bayOfAddress 1 hall = some 1 ∧ (hall.aligner 1).expected = some 9 ∧
      7 ≤ ((report 0 false).sequence - 9).toNat ∧ 7 ≤ ((report 8 false).sequence - 9).toNat ∧
      (hall.aligner 1).misinserted = false) ∧
    ((aligner fun a => { a with misinserted := true }).aligner 1).misinserted = true ∧
    ((c.aligner 1).state = .syncing ∧ (c.aligner 1).candidate ≠ some ((report 5 false).sequence - 1)) ∧
    (report 5 true).fault = true := by decide +kernel

/-- A run below the cut limit, and one that reaches it; a timer that is not running. -/
theorem witness_LateTimerExpirySubstitutes :
    let s := aligner fun a => { a with run := 11 }
    (hall.powered = true ∧ due (later 450 hall).oscillator (hall.aligner 1).lateTimer = true ∧
      due (later 449 hall).oscillator (hall.aligner 1).lateTimer = false ∧ (hall.aligner 1).state ≠ .blind ∧
      min 60 ((hall.aligner 1).run + 1) < (hall.settings 1).cutLimit) ∧
    (due (later 450 s).oscillator (s.aligner 1).lateTimer = true ∧ (s.aligner 1).state ≠ .blind ∧
      (s.settings 1).cutLimit ≤ min 60 ((s.aligner 1).run + 1)) ∧
    (free.powered = true ∧ (free.aligner 1).lateTimer = none) ∧ ((2 : Nat) ≤ 2 ∧ (3 : Nat) ≤ 3) := by decide +kernel

theorem witness_CreditOfAnInterval :
    ({ bay := 1, kind := .reported, readings := some (186, 918), length := 300, arrival := 0 } : Interval).readings =
      some (186, 918) ∧
    ({ bay := 1, kind := .datum, readings := none, length := 300, arrival := 0 } : Interval).readings = none := by decide

/-- A RELEASABLE cast with no cause and with one; a TRANSIT and a STRAYED one. No cause and ripe; the gap one second over its allowance; too old by one second; at the largest age. -/
theorem witness_EvaluationGivesTheState :
    let c := cast .curing
    let ripe := { c with maturity := cls.target }
    let doubted := { cast .releasable with causes := { CastCauses.empty with dose := true } }
    ((cast .releasable).state = .releasable ∧ (cast .releasable).causes.any = false ∧ doubted.causes.any = true ∧
      (cast .transit).state = .transit ∧ (cast .strayed).state = .strayed) ∧
    (cast .overdue).state = .overdue ∧ (cast .held).state = .held ∧ c.state = .curing ∧
    (c.causes.any || decide (cls.gapAllow * 60 < 7201)) = true ∧
    ((ripe.causes.any || decide (cls.gapAllow * 60 < ripe.gap) || decide (cls.dryAllow * 60 < ripe.dry)) = false ∧
      cls.target ≤ ripe.maturity ∧ cls.minAge * 3600 ≤ 259200 - ripe.pourTime) ∧
    (c.maturity < cls.target ∧ cls.maxAge * 3600 < 864001 - c.pourTime ∧ 864000 - c.pourTime ≤ cls.maxAge * 3600) := by
  decide

theorem witness_MinuteExpiryCountsGap :
    let b := withAligner 1 (fun a => { a with state := .blind }) (holds .curing)
    (hall.powered = true ∧ hall.clock < hall.minuteNext ∧
      ({ hall with clock := 60 } : State).minuteNext ≤ ({ hall with clock := 60 } : State).clock) ∧
    ((holds .curing).castAt 1 = some (cast .curing) ∧ (cast .curing).state.credited = true ∧
      unheard ((holds .curing).aligner (bayOf 1)).state = false) ∧
    (b.castAt 1 = some (cast .curing) ∧ unheard (b.aligner (bayOf 1)).state = true) ∧
    (holds .transit).castAt 1 = some (cast .transit) ∧ (holds .strayed).castAt 1 = some (cast .strayed) := by decide +kernel

/-- A HELD cast, a CURING one, and a hall without casts. -/
theorem witness_CastAssessClearsTheCauses :
    (linkFree (holds .held) ∧ findCast 7 (holds .held) = some 1 ∧ (holds .held).castAt 1 = some (cast .held) ∧
      (cast .held).state = .held) ∧
    (findCast 7 (holds .curing) = some 1 ∧ (holds .curing).castAt 1 = some (cast .curing) ∧
      (cast .curing).state ≠ .held) := by
  unfold linkFree; decide +kernel

theorem witness_CastAssessClearsTheCauses_none : linkFree free ∧ ∀ q x, free.castAt q = some x → x.id ≠ 7 := by
  refine ⟨by unfold linkFree; decide +kernel, fun p x h => ?_⟩
  have hc : free.castAt p = none := by
    show (at1 (Vector.replicate 288 Entry.unusable) p .nonexistent).cast? = none
    rcases at1_replicate 288 p Entry.unusable .nonexistent with h | h <;> rw [h] <;> rfl
  rw [hc] at h; cases h

/-- A STRAYED cast at its own position, to a FREE one, to one that is not FREE, and to a bay that is ABSENT; a CURING
cast. -/
theorem witness_CastPlaceConfirmsMovesOrRedirects :
    let y := writeEntry 2 .free (holds .strayed)
    (linkFree y ∧ findCast 7 y = some 1 ∧ y.castAt 1 = some (cast .strayed) ∧ y.bayState (bayOf 1) ≠ .sealPending) ∧
    (y.entry 2 = .free ∧ y.bayState (bayOf 2) ≠ .absent ∧ y.orders = []) ∧
    ((2 : Nat) ≠ 1 ∧ (holds .strayed).entry 2 ≠ .free ∧ ¬ (1 ≤ 0 ∧ 0 ≤ 288) ∧ ¬ (1 ≤ 289 ∧ 289 ≤ 288)) ∧
    ((writeEntry 25 .free y).entry 25 = .free ∧ (writeEntry 25 .free y).bayState (bayOf 25) = .absent) ∧
    (linkFree (holds .curing) ∧ (cast .curing).state.credited = true) := by
  unfold linkFree; decide +kernel

/-- A TRANSIT cast redirected to a FREE position, to one that is not, and to a bay that is not open; a shuttle that is not
FAULTED. -/
theorem witness_CastPlaceConfirmsMovesOrRedirects_transit :
    let f := writeEntry 2 .free (moving .faulted)
    let away := writeEntry 25 .free (moving .faulted)
    (linkFree f ∧ findCast 7 f = some 1 ∧ f.castAt 1 = some (cast .transit) ∧ f.shuttle.state = .faulted ∧
      f.transit = { cast := 7, position := 1, station := .a, written := true } :: [] ∧ f.entry 2 = .free ∧ f.orders = [] ∧
      f.bayState (bayOf 2) = .filling ∧ (f.aligner (bayOf 2)).state = .locked) ∧
    ((moving .faulted).entry 2 ≠ .free ∧ away.entry 25 = .free ∧ away.bayState (bayOf 25) = .absent) ∧
    (linkFree (moving .idle) ∧ (moving .idle).castAt 1 = some (cast .transit) ∧ (moving .idle).shuttle.state ≠ .faulted) := by
  unfold linkFree; decide +kernel

/-- Two casts of a batch in an UNLOADING bay: a RELEASABLE one, a CURING one taken by force, a STRAYED one. -/
def unloading (st : CastState) : State :=
  let s := writeEntry 2 (.occupied { cast .curing with id := 8 }) (writeEntry 1 (.occupied (cast st)) (bayIn .unloading))
  begin (writeBatch 1 (some { recd with live := 2, poured := 2 }) s)

/-- A placed cast and a STRAYED one, by ID and by position, beside another cast of the bay. -/
theorem witness_RemovalFreesTheEntry :
    ∀ st ∈ [CastState.releasable, .curing, .strayed],
      let s := unloading st
      s.powered = true ∧ s.plantLink.inHand = none ∧ s.orders = [] ∧ findCast 7 s = some 1 ∧ s.castAt 1 = some (cast st) ∧
      s.batch (cast st).slot = some { recd with live := 2, poured := 2 } ∧ recd.id = (cast st).batch ∧
      2 ∈ bayPositions (bayOf 1) ∧ s.castAt 2 = some { cast .curing with id := 8 } ∧ s.bayState (bayOf 1) = .unloading := by
  decide +kernel

/-- A cast alone in its bay, in a bay state, with its batch in a state. -/
def alone (st : CastState) (b : BayState) (r : BatchRecord) : State :=
  begin (writeBatch 1 (some r) (setBayState 1 b (writeEntry 2 .free (writeEntry 1 (.occupied (cast st)) hall))))

/-- The last cast of a bay and of a batch that has ended, and of one that runs; a bay that empties and one that does not; a
SEAL_PENDING bay that keeps a cast, with a TRANSIT cast in it and without. -/
theorem witness_RemovalFreesTheEntry_last :
    let ended := { recd with live := 1, poured := 1, endTime := some 9, endCause := some EndCause.complete }
    let s := alone .releasable .unloading ended
    let two := fun (st : CastState) => setBayState 1 .sealPending
      (writeEntry 2 (.occupied { cast st with id := 8 }) (alone .strayed .sealPending ended))
    let gone := fun (x : State) => writeEntry 1 .free x
    (linkFree s ∧ s.orders = [] ∧ s.castAt 1 = some (cast .releasable) ∧ s.batch 1 = some ended ∧
      ended.id = (cast .releasable).batch ∧ ended.live - 1 = 0 ∧ s.bayState (bayOf 1) = .unloading) ∧
    (bayPositions (bayOf 1)).all (fun q => decide (q = 1) || ((s.castAt q).isNone && !(s.entry q).isReserved)) = true ∧
    ({ recd with live := 1 }.endTime.isSome = false) ∧
    (∀ b ∈ [BayState.filling, .sealPending, .unloading, .absent, .sealed],
      (alone .strayed b ended).bayState (bayOf 1) = b ∧ (alone .strayed b ended).castAt 1 = some (cast .strayed)) ∧
    (2 ∈ bayPositions (bayOf 1) ∧ ((two .curing).castAt 2).isSome = true ∧ (two .curing).bayState (bayOf 1) = .sealPending ∧
      bayAwaits 1 (gone (two .transit)) = true ∧ bayAwaits 1 (gone (two .curing)) = false) := by
  unfold linkFree; decide +kernel

/-- IDs and positions out of range at both ends, and in range with no cast; the states that refuse. -/
theorem witness_RemovalFreesTheEntry_refused :
    (linkFree (unloading .curing) ∧ (unloading .curing).castAt 1 = some (cast .curing) ∧
      (unloading .curing).bayState (bayOf 1) = .unloading) ∧
    (linkFree (holds .curing) ∧ (holds .curing).bayState (bayOf 1) ≠ .unloading) ∧
    (unloading .strayed).castAt 1 = some (cast .strayed) ∧
    (findCast 1 (unloading .curing) = none ∧ findCast 16777215 (unloading .curing) = none ∧
      (unloading .curing).castAt 288 = none ∧ (unloading .curing).castAt 3 = none) := by
  unfold linkFree; decide +kernel

/-- The removal of the last cast of a bay and of an ended batch: the slot is freed, the bay is EMPTY, and BAY EMPTY waits
behind the certificate. -/
theorem test_last_cast_empties_the_bay :
    let ended := { recd with live := 1, poured := 1, endTime := some 9, endCause := some EndCause.complete }
    let s := State.holding (alone .releasable .unloading ended) 4 (.castTake (.byPosition 1) false)
    let t := (castTake (.byPosition 1) false s).1
    t.batch 1 = none ∧ t.entry 1 = .free ∧ t.bayState 1 = .empty ∧
    t.plantLink.notices = [.bayEmpty 1 .unloading] := by decide +kernel

end Sys2Proof.Tests
end

section
/-! PROOF. The hall after reset (R3, R10, R19, R35, R38, R44, R78, R91, R92, R145, R183). -/

namespace Sys2Proof.Proofs

open Sys2Proof.Machine

/-! ### A table whose items are all alike -/

/-- A table filled with the value that stands for no item holds that value under every number. -/
theorem at1_replicate_default {α : Type} (n i : Nat) (d : α) : at1 (Vector.replicate n d) i d = d := by
  cases i with
  | zero => rfl
  | succ k =>
    by_cases hk : k < n
    · simp [at1, hk]
    · simp [at1, Nat.le_of_not_lt hk]

/-- A table filled with one value holds it under each of its numbers. -/
theorem at1_replicate_of_mem {α : Type} (n i : Nat) (x d : α) (h1 : 1 ≤ i) (hn : i ≤ n) :
    at1 (Vector.replicate n x) i d = x := by
  cases i with
  | zero => omega
  | succ k => simp [at1, Nat.lt_of_succ_le hn]

/-! ### Reset -/

/-- R98: every bay is ABSENT in the first settings, and under a number that is no bay's. -/
theorem reset_bayState (b : Nat) : State.reset.bayState b = .absent := by
  have held : ∀ i : Fin 12, Store.first.settings[i].state = .absent := by decide
  cases b with
  | zero => rfl
  | succ k =>
    show (Store.first.settings[k]?.getD (BaySettings.default (k + 1) .absent)).state = .absent
    by_cases hk : k < 12
    · rw [Vector.getElem?_eq_getElem hk]
      exact held ⟨k, hk⟩
    · rw [Vector.getElem?_eq_none (Nat.le_of_not_lt hk)]
      rfl

/-- R129: no aligner is bound. -/
theorem reset_aligner (b : Nat) : State.reset.aligner b = Aligner.unbound := at1_replicate_default 12 b _

/-- R38: both sequencers are IDLE with the drive STOPPED. -/
theorem reset_seq (m : Mixer) : State.reset.seq m = Sequencer.idle := by cases m <;> rfl

/-- R78: both Pour Stations are idle. -/
theorem reset_station (m : Mixer) : State.reset.station m = PourStation.idle := by cases m <;> rfl

theorem reset_marker (m : Mixer) : State.reset.marker m = none := by cases m <;> rfl

/-- Settles O7: the tables hold the value of an absent item throughout, and every other item is read off the reset state. -/
theorem resetIsAnEmptyHall : Obligations.ResetIsAnEmptyHall :=
  ⟨fun n => at1_replicate_default 6 n none, fun i => at1_replicate_default 8 i none,
    fun k => at1_replicate_default 32 k none, fun p => at1_replicate_of_mem 288 p _ _,
    fun b => at1_replicate_default 12 b none, reset_bayState, fun b => by rw [reset_aligner]; rfl,
    fun m => by rw [reset_seq]; exact ⟨rfl, rfl⟩, reset_marker, reset_station,
    rfl, rfl, rfl, rfl, rfl, rfl, rfl, rfl, rfl, rfl, rfl, rfl⟩

end Sys2Proof.Proofs
end

section
/-! PROOF. The dose computation and its checks (R14 to R17). -/

namespace Sys2Proof.Proofs

open Sys2Proof.Machine

/-! ### The quantities of Table 1.3 -/

/-- Table 1.3 (1): the cement ratio with the band's chloride increment, at most 900. -/
def cementRatio (c : ClassRecord) (band : Nat) : Nat := capped 900 (c.cement + chlorideIncrement c band)

/-- Table 1.3 (3): what one unit of dry ash brings into the batch, in millionths. -/
def massFactor (c : ClassRecord) (band : Nat) : Nat :=
  (1000 + cementRatio c band) * (1000 + c.water) + 1000 * c.chelant

/-- Table 1.3 (3): the dry ash of `n` casts. -/
def dryAsh (n : Nat) (c : ClassRecord) (band : Nat) : Nat := n * c.castMass * 1000000 / massFactor c band

/-- R14: the doses in terms of the dry ash and the cement ratio. -/
theorem computeDoses_eq (n : Nat) (c : ClassRecord) (u band : Nat) :
    computeDoses n c u band =
      { ash := divUp (dryAsh n c band * 1000) (1000 - u), cement := dryAsh n c band * cementRatio c band / 1000
        water := (((dryAsh n c band + dryAsh n c band * cementRatio c band / 1000) * c.water / 1000 : Nat) : Int) -
          ((divUp (dryAsh n c band * 1000) (1000 - u) : Int) - (dryAsh n c band : Int))
        chelant := dryAsh n c band * c.chelant / 1000, mass := n * c.castMass } := rfl

/-- Table 1.1: the increment of each of the four bands. -/
theorem chlorideIncrement_eq (c : ClassRecord) (band : Nat) (h : band ≤ 3) :
    chlorideIncrement c band =
      if band = 0 then c.chloride0 else if band = 1 then c.chloride1 else if band = 2 then c.chloride2
      else c.chloride3 := by
  match band, h with
  | 0, _ => rfl
  | 1, _ => rfl
  | 2, _ => rfl
  | 3, _ => rfl

/-- A quotient rounded up, by a divisor that is not zero. -/
theorem divUp_eq (x d : Nat) (h : 0 < d) : divUp x d = (x + d - 1) / d := by
  rw [divUp, Nat.add_sub_assoc h]

/-- Settles O19: Table 1.3 read off the model, with the increment of the band and the rounding up written out. -/
theorem doseComputation : Obligations.DoseComputation := by
  intro n u band c hband increment c' B D C W H A hu
  have hc : cementRatio c band = c' := by rw [cementRatio, chlorideIncrement_eq c band hband]; rfl
  have hD : dryAsh n c band = D := by rw [dryAsh, massFactor, hc]
  have hA : divUp (D * 1000) (1000 - u) = A := divUp_eq _ _ (by omega)
  rw [computeDoses_eq, hc, hD, hA]

/-! ### The dose checks (R15) -/

/-- R15: the doses that pass the three checks. -/
theorem doseRefusal_eq_none_iff (d : Doses) :
    doseRefusal d = none ↔ d.mass ≤ 15000 ∧ d.cement ≤ 4000 ∧ 0 ≤ d.water := by
  unfold doseRefusal
  simp only [Config.mixerCapacity, Config.scaleCapacity, gt_iff_lt]
  split
  · simp; omega
  · split
    · simp; omega
    · split
      · simp; omega
      · simp; omega

theorem doseRefusal_overMixer (d : Doses) (h : 15000 < d.mass) : doseRefusal d = some .overMixer := if_pos h

theorem doseRefusal_overScale (d : Doses) (h : d.mass ≤ 15000) (hc : 4000 < d.cement) :
    doseRefusal d = some .overScale := (if_neg (Nat.not_lt.2 h)).trans (if_pos hc)

theorem doseRefusal_wetLot (d : Doses) (h : d.mass ≤ 15000) (hc : d.cement ≤ 4000) (hw : d.water < 0) :
    doseRefusal d = some .wetLot :=
  (if_neg (Nat.not_lt.2 h)).trans ((if_neg (Nat.not_lt.2 hc)).trans (if_pos hw))

/-! ### The bounds of the targets (R16, R17) -/

/-- R4 (2): the ranges of a class record that the dose computation rests on. -/
theorem doseRanges_of_classRanges (c : ClassRecord) (h : classRanges c = true) :
    100 ≤ c.cement ∧ c.water ≤ 700 ∧ c.chelant ≤ 50 ∧ 200 ≤ c.castMass := by
  simp only [classRanges, Bool.and_eq_true, decide_eq_true_eq] at h
  omega

theorem cementRatio_bounds (c : ClassRecord) (band : Nat) (h : 100 ≤ c.cement) :
    100 ≤ cementRatio c band ∧ cementRatio c band ≤ 900 := by
  unfold cementRatio capped
  omega

/-- The mass that the dry ash and what goes with it would have, exactly, is at most the batch mass. -/
theorem dryAsh_mul_massFactor_le (n : Nat) (c : ClassRecord) (band : Nat) :
    dryAsh n c band * massFactor c band ≤ n * c.castMass * 1000000 := Nat.div_mul_le_self _ _

/-- A batch of at least one cast in range holds at least ten units of dry ash. -/
theorem ten_le_dryAsh (n : Nat) (c : ClassRecord) (band : Nat) (hn : 1 ≤ n) (h : classRanges c = true) :
    10 ≤ dryAsh n c band := by
  obtain ⟨hcement, hwater, hchelant, hmass⟩ := doseRanges_of_classRanges c h
  obtain ⟨hlow, hhigh⟩ := cementRatio_bounds c band hcement
  have hfactor : massFactor c band ≤ 1900 * 1700 + 1000 * 50 :=
    Nat.add_le_add (Nat.mul_le_mul (by omega) (by omega)) (Nat.mul_le_mul_left _ hchelant)
  have hpos : 0 < massFactor c band := Nat.add_pos_left (Nat.mul_pos (by omega) (by omega)) _
  have hbatch : 200 ≤ n * c.castMass := Nat.le_trans hmass (Nat.le_mul_of_pos_left _ hn)
  rw [dryAsh, Nat.le_div_iff_mul_le hpos]
  omega

/-- R17 on numbers alone: the dry ash `D`, its cement, the water they take and the chelant weigh at most the batch mass
`B`; every division rounds down, so no step loses more than it should. -/
theorem dosed_total_le (D k w h B : Nat) (hB : D * ((1000 + k) * (1000 + w) + 1000 * h) ≤ B * 1000000) :
    D + D * k / 1000 + (D + D * k / 1000) * w / 1000 + D * h / 1000 ≤ B := by
  have hC : D * k / 1000 * 1000 ≤ D * k := Nat.div_mul_le_self _ _
  have hW : (D + D * k / 1000) * w / 1000 * 1000 ≤ (D + D * k / 1000) * w := Nat.div_mul_le_self _ _
  have hH : D * h / 1000 * 1000 ≤ D * h := Nat.div_mul_le_self _ _
  have hCw : D * k / 1000 * 1000 * w ≤ D * k * w := Nat.mul_le_mul_right w hC
  have hfactor : D * ((1000 + k) * (1000 + w) + 1000 * h) =
      1000000 * D + 1000 * (D * w) + 1000 * (D * k) + D * k * w + 1000 * (D * h) := by grind
  generalize D * k / 1000 = C at *
  generalize (D + C) * w / 1000 = W at *
  generalize D * h / 1000 = H at *
  rw [hfactor] at hB
  rw [Nat.add_mul] at hW
  rw [Nat.mul_right_comm] at hCw
  omega

/-- R16, R17 on numbers alone: the water added makes up for what the moist ash brings, so the sum is that of the dry ash
and the full water. -/
theorem targets_bounds {A C W D H B : Nat} (hash : 1 ≤ A) (hcem : 1 ≤ C) (hscale : C ≤ 4000)
    (hwater : 0 ≤ (W : Int) - ((A : Int) - (D : Int))) (htotal : D + C + W + H ≤ B) (hmass : B ≤ 15000) :
    1 ≤ A ∧ 1 ≤ C ∧ C ≤ 4000 ∧ A + C + ((W : Int) - ((A : Int) - (D : Int))).toNat + H ≤ B ∧ B ≤ 15000 := by
  omega

/-- Settles O20: the checks are the branches of `doseRefusal`, and the bounds follow from the dry ash. -/
theorem doseChecksAndBounds : Obligations.DoseChecksAndBounds := by
  refine ⟨fun d => ⟨doseRefusal_overMixer d, doseRefusal_overScale d, doseRefusal_wetLot d,
    fun h hc hw => (doseRefusal_eq_none_iff d).2 ⟨h, hc, hw⟩⟩, ?_⟩
  intro n u band c hn _ hu _ hclass hpass
  obtain ⟨hmass, hscale, hwater⟩ := (doseRefusal_eq_none_iff _).1 hpass
  obtain ⟨hcement, -, -, -⟩ := doseRanges_of_classRanges c hclass
  have hratio : 100 ≤ cementRatio c band := (cementRatio_bounds c band hcement).1
  have hdry : 10 ≤ dryAsh n c band := ten_le_dryAsh n c band hn hclass
  have htotal := dosed_total_le _ _ _ _ _ (dryAsh_mul_massFactor_le n c band)
  have hash : 1 ≤ divUp (dryAsh n c band * 1000) (1000 - u) := by
    rw [divUp_eq _ _ (by omega), Nat.le_div_iff_mul_le (by omega)]
    omega
  have hcem : 1 ≤ dryAsh n c band * cementRatio c band / 1000 := by
    rw [Nat.le_div_iff_mul_le (by omega)]
    exact Nat.le_trans (by decide : 1 * 1000 ≤ 10 * 100) (Nat.mul_le_mul hdry hratio)
  rw [computeDoses_eq] at hmass hscale hwater ⊢
  exact targets_bounds hash hcem hscale hwater htotal hmass

end Sys2Proof.Proofs
end

section
/-! PROOF. CLASS SET (R4) and the checks of ORDER POST (R20): what each answers, and what becomes of it on a free link. -/

namespace Sys2Proof.Proofs

open Sys2Proof.Machine

/-! ### CLASS SET (R4) -/

theorem classSet_range (n : Nat) (r : ClassRecord) (s : State) (h : n < 1 ∨ 6 < n ∨ classRanges r = false) :
    classSet n r s = (s, .refused .range .empty) := by
  unfold classSet
  by_cases hn : n < 1 ∨ 6 < n
  · rw [if_pos hn]
  · have hr : classRanges r = false := by
      rcases h with h | h | h
      · exact absurd (.inl h) hn
      · exact absurd (.inr h) hn
      · exact h
    rw [if_neg hn, if_pos hr]

theorem classSet_inUse (n : Nat) (r : ClassRecord) (s : State) (hn : 1 ≤ n) (hn' : n ≤ 6) (hr : classRanges r = true)
    (hd : (s.cls n).isSome = true) (hu : classInUse n s = true) : classSet n r s = (s, .refused .inUse .empty) := by
  unfold classSet
  rw [if_neg (by omega), if_neg (by simp [hr]), if_pos ⟨hd, hu⟩]

theorem classSet_done (n : Nat) (r : ClassRecord) (s : State) (hn : 1 ≤ n) (hn' : n ≤ 6) (hr : classRanges r = true)
    (h : s.cls n = none ∨ classInUse n s = false) : classSet n r s = (write (.cls n (some r)) s, .done .empty) := by
  unfold classSet
  have hfree : ¬ ((s.cls n).isSome ∧ classInUse n s) := by
    rintro ⟨hd, hu⟩
    rcases h with h | h
    · simp [h] at hd
    · simp [h] at hu
  rw [if_neg (by omega), if_neg (by simp [hr]), if_neg hfree]

/-- A request on a free link that makes one write and is answered DONE. -/
theorem request_writes (c : Instr) (tag : Nat) (r : Request) (rep : Reply) (w : Retained) (s : State)
    (hc : c.request? = some (tag, r)) (h : linkFree s)
    (ha : act r (taken (requested tag r) s) = (write w (taken (requested tag r) s), rep)) :
    Completes c s ((write w s).answered tag r rep) [replyFrame tag r rep] := by
  have hlink := h
  obtain ⟨-, -, -, -, hreply, hsending, -⟩ := hlink
  exact request_completes c tag r rep s _ (write w s) _ hc h ha rfl hsending hreply rfl List.prefix_rfl

/-- Settles O21, by the three outcomes of `classSet`. -/
theorem classSetReplacesTheRecord : Obligations.ClassSetReplacesTheRecord := by
  intro tag n r s h
  refine ⟨fun hn hn' hr hfree => ?_, fun hrange => ?_, fun hn hn' hr hd hu => ?_⟩
  · exact request_writes _ tag (.classSet n r) _ _ s rfl h (classSet_done n r _ hn hn' hr hfree)
  · exact request_refused _ tag (.classSet n r) _ s _ rfl h (classSet_range n r _ hrange) (List.nil_prefix)
  · exact request_refused _ tag (.classSet n r) _ s _ rfl h (classSet_inUse n r _ hn hn' hr hd hu) (List.nil_prefix)

/-! ### The checks of ORDER POST (R20) -/

section orderPost

variable {r : OrderRequest} {l : Lot} {c : ClassRecord} {s : State}

theorem orderPost_full (h : 16 ≤ s.orders.length) : orderPost r s = (s, .refused .full .empty) := if_pos h

/-- R20 check 5: the mixer choice of a request in range is one of the three. -/
theorem choice_of_orderRanges (h : orderRanges r = true) : ∃ choice, choiceOfCode r.mixerChoice = some choice := by
  simp only [orderRanges, Bool.and_eq_true] at h
  obtain ⟨⟨⟨-, hchoice⟩, -⟩, -⟩ := h
  exact Option.isSome_iff_exists.1 hchoice

variable (hq : ¬ Config.orderQueueSize ≤ s.orders.length)
include hq

theorem orderPost_duplicate (hu : orderInUse r.order s = true) : orderPost r s = (s, .refused .duplicate .empty) :=
  (if_neg hq).trans (if_pos hu)

variable (hu : ¬ orderInUse r.order s = true)
include hu

theorem orderPost_noLot (hl : openLot r.lot s = none) : orderPost r s = (s, .refused .noLot .empty) := by
  unfold orderPost
  rw [if_neg hq, if_neg hu, hl]

variable (hl : openLot r.lot s = some l)
include hl

theorem orderPost_noClass (hc : s.cls r.cls = none) : orderPost r s = (s, .refused .noClass .empty) := by
  unfold orderPost
  rw [if_neg hq, if_neg hu, hl, hc]

variable (hc : s.cls r.cls = some c)
include hc

theorem orderPost_range (hr : orderRanges r = false) : orderPost r s = (s, .refused .range .empty) := by
  unfold orderPost
  rw [if_neg hq, if_neg hu, hl, hc]
  cases choiceOfCode r.mixerChoice with
  | none => rfl
  | some choice => exact if_pos hr

theorem orderPost_dose {x : Reason} (hr : orderRanges r = true)
    (hd : doseRefusal (computeDoses r.count c l.moisture l.band) = some x) :
    orderPost r s = (s, .refused x (.targets (computeDoses r.count c l.moisture l.band))) := by
  obtain ⟨choice, hchoice⟩ := choice_of_orderRanges hr
  unfold orderPost
  rw [if_neg hq, if_neg hu, hl, hc, hchoice]
  simp only [hr, hd, Bool.true_eq_false, if_false]

end orderPost

/-- Settles O24, one outcome of `orderPost` for each check. -/
theorem orderPostChecksInOrder : Obligations.OrderPostChecksInOrder := by
  intro tag r l c x s h refused
  have unchanged : ∀ y b, orderPost r (taken (requested tag (.orderPost r)) s) =
      (taken (requested tag (.orderPost r)) s, .refused y b) → refused y b :=
    fun y b ha => request_refused _ tag (.orderPost r) _ s _ rfl h ha List.prefix_rfl
  refine ⟨fun hq => ?_, fun hq hu => ?_, fun hq hu hl => ?_, fun hq hu hl hc => ?_, fun hq hu hl hc hr => ?_,
    fun hq hu hl hc hr hd => ?_⟩
  · exact unchanged _ _ (orderPost_full hq)
  · exact unchanged _ _ (orderPost_duplicate (Nat.not_le.2 hq) hu)
  · exact unchanged _ _ (orderPost_noLot (Nat.not_le.2 hq) (Bool.eq_false_iff.1 hu) hl)
  · exact unchanged _ _ (orderPost_noClass (Nat.not_le.2 hq) (Bool.eq_false_iff.1 hu) hl hc)
  · exact unchanged _ _ (orderPost_range (Nat.not_le.2 hq) (Bool.eq_false_iff.1 hu) hl hc hr)
  · exact unchanged _ _ (orderPost_dose (s := taken _ s) (Nat.not_le.2 hq) (Bool.eq_false_iff.1 hu) hl hc hr hd)

end Sys2Proof.Proofs
end

section
/-! PROOF. The Lot Table (R6 to R9): what each write leaves of the lots, the closing up of ranks, and the outcomes of LOT DEFINE and LOT CLOSE. -/

namespace Sys2Proof.Proofs

open Sys2Proof.Machine

/-! ### The entries -/

/-- Only the numbers of a table hold items. -/
theorem at1_mem {α : Type} {n : Nat} {v : Vector (Option α) n} {i : Nat} {x : α} (h : at1 v i none = some x) :
    1 ≤ i ∧ i ≤ n := by
  cases i with
  | zero => cases h
  | succ k =>
    by_cases hk : k < n
    · omega
    · rw [at1, Vector.getElem?_eq_none (Nat.le_of_not_lt hk)] at h
      cases h

theorem mem_allLots {i : Nat} : i ∈ allLots ↔ 1 ≤ i ∧ i ≤ 8 := by
  rw [allLots, List.mem_range'_1]
  omega

theorem mem_allLots_of_lot {i : Nat} {l : Lot} {s : State} (h : s.lot i = some l) : i ∈ allLots :=
  mem_allLots.2 (at1_mem h)

theorem write_lot_same {i : Nat} (x : Option Lot) (s : State) (hi : i ∈ allLots) : (write (.lot i x) s).lot i = x :=
  at1_put1_same _ _ _ _ (mem_allLots.1 hi)

theorem write_lot_other {i j : Nat} (x : Option Lot) (s : State) (h : j ≠ i) : (write (.lot i x) s).lot j = s.lot j :=
  at1_put1_other _ _ _ _ _ h

/-- The entry that `findLot` names holds the lot it gives. -/
theorem lot_of_findLot {n i : Nat} {l : Lot} {s : State} (h : findLot n s = some (i, l)) :
    s.lot i = some l := by
  obtain ⟨j, -, hj⟩ := List.exists_of_findSome?_eq_some h
  cases hx : s.lot j with
  | none => simp [hx] at hj
  | some x =>
    by_cases hn : x.number = n
    · simp only [hx, if_pos hn, Option.some.injEq, Prod.mk.injEq] at hj
      obtain ⟨rfl, rfl⟩ := hj
      exact hx
    · simp [hx, hn] at hj

/-- `findLot` finds nothing where no entry holds a lot of that number. -/
theorem findLot_none_of {n : Nat} {s : State} (h : ∀ i l, s.lot i = some l → l.number ≠ n) : findLot n s = none := by
  refine List.findSome?_eq_none_iff.2 fun i _ => ?_
  cases hx : s.lot i with
  | none => rfl
  | some l => exact if_neg (h i l hx)

theorem lot_of_freeLot {i : Nat} {s : State} (h : freeLot s = some i) : s.lot i = none := by
  simpa using List.find?_some h

/-! ### Close ranks (R6) -/

theorem rankOf_closed {i k : Nat} {l : Lot} {s : State} (h : s.lot i = some l) (hc : l.state = .closed k) :
    rankOf i s = some k := by simp [rankOf, h, hc, LotState.rank?]

theorem rankOf_opened {i : Nat} {l : Lot} {s : State} (h : s.lot i = some l) (ho : l.state = .opened) :
    rankOf i s = none := by simp [rankOf, h, ho, LotState.rank?]

theorem rankOf_free {i : Nat} {s : State} (h : s.lot i = none) : rankOf i s = none := by simp [rankOf, h]

theorem lot_of_rankOf {i k : Nat} {s : State} (h : rankOf i s = some k) :
    ∃ l, s.lot i = some l ∧ l.state = .closed k := by
  obtain ⟨l, hl, hk⟩ := Option.bind_eq_some_iff.1 h
  cases hs : l.state with
  | opened => rw [hs] at hk; cases hk
  | closed r => rw [hs] at hk; cases hk; exact ⟨l, hl, hs⟩

/-- R6: a lot after the closing up of the ranks above `k`. -/
def lowerLot (k : Nat) (l : Lot) : Lot :=
  match l.state with
  | .opened => l
  | .closed r => if k < r then { l with state := .closed (r - 1) } else l

theorem lowerRank_lot_same (k i : Nat) (s : State) : (lowerRank k i s).lot i = (s.lot i).map (lowerLot k) := by
  unfold lowerRank
  cases hl : s.lot i with
  | none => exact hl
  | some l =>
    cases hs : l.state with
    | opened => simp [lowerLot, hs, hl]
    | closed r =>
      by_cases hk : k < r
      · simp [lowerLot, hs, hk, write_lot_same _ s (mem_allLots_of_lot hl)]
      · simp [lowerLot, hs, hk, hl]

theorem lowerRank_lot_other {k i j : Nat} (s : State) (h : j ≠ i) : (lowerRank k i s).lot j = s.lot j := by
  unfold lowerRank
  split
  · rfl
  · split
    · rfl
    · split
      · exact write_lot_other _ s h
      · rfl

/-- Lowering the entries of a list, each once, lowers just these. -/
theorem foldl_lowerRank_lot (k j : Nat) (l : List Nat) (hl : l.Nodup) (s : State) :
    (l.foldl (fun t i => lowerRank k i t) s).lot j = if j ∈ l then (s.lot j).map (lowerLot k) else s.lot j := by
  induction l generalizing s with
  | nil => rfl
  | cons i rest ih =>
    obtain ⟨hi, hrest⟩ := List.nodup_cons.1 hl
    rw [List.foldl_cons, ih hrest]
    by_cases hj : j = i
    · subst hj
      rw [if_neg hi, if_pos List.mem_cons_self, lowerRank_lot_same]
    · simp only [List.mem_cons, hj, false_or, lowerRank_lot_other s hj]

/-- Items put one after another into a list, each beside what it holds, make a list of just these items. -/
theorem foldr_perm {α : Type} {f : α → List α → List α} (hf : ∀ x l, (f x l).Perm (x :: l)) (l : List α) :
    (l.foldr f []).Perm l := by
  induction l with
  | nil => exact .refl []
  | cons x rest ih => exact (hf x _).trans (ih.cons x)

theorem insertByRank_perm (s : State) (i : Nat) (l : List Nat) : (insertByRank s i l).Perm (i :: l) := by
  induction l with
  | nil => exact .refl [i]
  | cons j rest ih =>
    rw [insertByRank]
    split
    · exact .refl _
    · exact (ih.cons j).trans (.swap i j rest)

/-- `byRank` lists the CLOSED entries, each once. -/
theorem byRank_perm (s : State) : (byRank s).Perm (allLots.filter fun i => (rankOf i s).isSome) :=
  foldr_perm (insertByRank_perm s) _

theorem mem_byRank {s : State} {j : Nat} : j ∈ byRank s ↔ (rankOf j s).isSome := by
  rw [(byRank_perm s).mem_iff, List.mem_filter]
  refine ⟨fun h => h.2, fun h => ⟨?_, h⟩⟩
  obtain ⟨k, hk⟩ := Option.isSome_iff_exists.1 h
  obtain ⟨l, hl, -⟩ := lot_of_rankOf hk
  exact mem_allLots_of_lot hl

theorem byRank_nodup (s : State) : (byRank s).Nodup :=
  (byRank_perm s).nodup_iff.2 (List.Pairwise.filter _ (by decide : allLots.Nodup))

/-- R6: the closing up lowers every lot, since one without a rank stays as it is. -/
theorem closeGap_lot (k j : Nat) (s : State) : (closeGap (some k) s).lot j = (s.lot j).map (lowerLot k) := by
  rw [closeGap, foldl_lowerRank_lot k j _ (byRank_nodup s)]
  split
  · rfl
  · next h =>
    rw [mem_byRank] at h
    cases hl : s.lot j with
    | none => rfl
    | some l =>
      cases hs : l.state with
      | opened => simp [lowerLot, hs]
      | closed r => simp [rankOf_closed hl hs] at h

/-! ### What the lot requests leave unchanged -/

/-- Nothing but the lots, the marks of damaged records and the journal differs. -/
def LotsOnly (s t : State) : Prop :=
  ∃ lots damaged journal, t = { s with store := { s.store with lots := lots, damaged := damaged }, journal := journal }

theorem LotsOnly.refl (s : State) : LotsOnly s s := ⟨_, _, _, rfl⟩

theorem LotsOnly.trans {s t u : State} (h : LotsOnly s t) (k : LotsOnly t u) : LotsOnly s u := by
  obtain ⟨_, _, _, rfl⟩ := h
  obtain ⟨_, _, _, rfl⟩ := k
  exact ⟨_, _, _, rfl⟩

theorem write_lotsOnly (i : Nat) (x : Option Lot) (s : State) : LotsOnly s (write (.lot i x) s) := ⟨_, _, _, rfl⟩

theorem lowerRank_lotsOnly (k i : Nat) (s : State) : LotsOnly s (lowerRank k i s) := by
  unfold lowerRank
  split
  · exact .refl s
  · split
    · exact .refl s
    · split
      · exact write_lotsOnly _ _ s
      · exact .refl s

theorem closeGap_lotsOnly (k : Option Nat) (s : State) : LotsOnly s (closeGap k s) := by
  cases k with
  | none => exact .refl s
  | some k =>
    rw [closeGap]
    generalize byRank s = l
    induction l generalizing s with
    | nil => exact .refl s
    | cons i rest ih => exact (lowerRank_lotsOnly k i s).trans (ih _)

/-- The OPEN lot that LOT DEFINE puts into an entry (R7). -/
def openedLot (n u b : Nat) : Lot := { number := n, moisture := u, band := b, state := .opened }

theorem placeLot_lotsOnly (i n u b : Nat) (s : State) : LotsOnly s (placeLot i n u b s).1 :=
  (write_lotsOnly i (some (openedLot n u b)) s).trans (closeGap_lotsOnly _ _)

/-! ### A lot put into an entry (R6 to R8) -/

theorem placeLot_unranked (i n u b : Nat) (s : State) (h : rankOf i s = none) :
    placeLot i n u b s = (write (.lot i (some (openedLot n u b))) s, .done (.lot (openedLot n u b))) := by
  rw [placeLot, h]
  rfl

theorem placeLot_lot_same {i k : Nat} (n u b : Nat) {s : State} (h : rankOf i s = some k) :
    (placeLot i n u b s).1.lot i = some (openedLot n u b) := by
  obtain ⟨l, hl, -⟩ := lot_of_rankOf h
  rw [placeLot, h]
  dsimp only
  rw [closeGap_lot, write_lot_same _ s (mem_allLots_of_lot hl)]
  rfl

theorem placeLot_lot_other {i j k : Nat} (n u b : Nat) {s : State} (h : rankOf i s = some k) (hj : j ≠ i) :
    (placeLot i n u b s).1.lot j = (s.lot j).map (lowerLot k) := by
  rw [placeLot, h]
  dsimp only
  rw [closeGap_lot, write_lot_other _ s hj]

/-! ### The CLOSED lot of lowest rank (R7) -/

/-- The lower of a rank found so far (0 for none) and that of an entry. -/
def lowerOf (s : State) (n i : Nat) : Nat :=
  match rankOf i s with
  | some r => if n = 0 ∨ r < n then r else n
  | none => n

theorem oldestClosed_eq (s : State) :
    oldestClosed s = allLots.find? fun i => decide (rankOf i s = some (allLots.foldl (lowerOf s) 0)) := rfl

/-- Where no entry has a rank, none is found. -/
theorem oldestClosed_none {s : State} (h : ∀ j, rankOf j s = none) : oldestClosed s = none := by
  rw [oldestClosed_eq]
  exact List.find?_eq_none.2 fun i _ => by simp [h i]

section lowest

variable {s : State} {i rank : Nat} (hi : rankOf i s = some rank) (hpos : 1 ≤ rank)
  (hlow : ∀ j k, j ≠ i → rankOf j s = some k → rank < k)
include hi hpos hlow

/-- Once the lowest rank is found it stays, and until then only higher ranks are. -/
theorem foldl_lowerOf (l : List Nat) (n : Nat) (hn : n = 0 ∨ rank ≤ n) (h : i ∈ l ∨ n = rank) :
    l.foldl (lowerOf s) n = rank := by
  induction l generalizing n with
  | nil => simpa using h
  | cons j rest ih =>
    rw [List.foldl_cons]
    by_cases hj : j = i
    · have hstep : lowerOf s n j = rank := by
        simp only [lowerOf, hj, hi]
        split <;> omega
      rw [hstep]
      exact ih rank (.inr (Nat.le_refl rank)) (.inr rfl)
    · have hrest : i ∈ rest ∨ n = rank := h.imp_left fun hmem => (List.mem_cons.1 hmem).resolve_left (Ne.symm hj)
      cases hr : rankOf j s with
      | none => simpa only [lowerOf, hr] using ih n hn hrest
      | some k =>
        have hk := hlow j k hj hr
        simp only [lowerOf, hr]
        split
        · exact ih k (.inr (by omega)) (hrest.imp_right (by omega))
        · exact ih n hn hrest

theorem oldestClosed_some : oldestClosed s = some i := by
  obtain ⟨l, hl, -⟩ := lot_of_rankOf hi
  have hmem := mem_allLots_of_lot hl
  rw [oldestClosed_eq, foldl_lowerOf hi hpos hlow allLots 0 (.inl rfl) (.inl hmem)]
  cases hf : allLots.find? fun j => decide (rankOf j s = some rank) with
  | none => exact absurd (decide_eq_true hi) (List.find?_eq_none.1 hf i hmem)
  | some j =>
    have hj : rankOf j s = some rank := by simpa using List.find?_some hf
    by_cases hji : j = i
    · rw [hji]
    · exact absurd (hlow j rank hji hj) (Nat.lt_irrefl rank)

end lowest

/-! ### The outcomes of LOT DEFINE (R7, R8) -/

section lotDefine

variable {n u b i : Nat} {l : Lot} {s : State}

theorem lotDefine_range (h : 450 < u ∨ 3 < b ∨ (findLot n s = none ∧ (n < 1 ∨ 65535 < n))) :
    lotDefine n u b s = (s, .refused .range .empty) := by
  unfold lotDefine
  split
  · next hf => exact if_pos (by simpa [hf] using h)
  · next hf => exact if_pos (by simp only [hf, true_and] at h; omega)

variable (hn : ¬ (n < 1 ∨ 65535 < n ∨ 450 < u ∨ 3 < b))
include hn

theorem lotDefine_inUse (hf : findLot n s = some (i, l)) (hu : 0 < lotUses n s) :
    lotDefine n u b s = (s, .refused .inUse .empty) := by
  rw [lotDefine, hf]
  exact (if_neg (by omega)).trans (if_pos hu)

theorem lotDefine_known (hf : findLot n s = some (i, l)) (hu : lotUses n s = 0) :
    lotDefine n u b s = placeLot i n u b s := by
  rw [lotDefine, hf]
  exact (if_neg (by omega)).trans (if_neg (by omega))

theorem lotDefine_free (hf : findLot n s = none) (hi : freeLot s = some i) :
    lotDefine n u b s = placeLot i n u b s := by
  rw [lotDefine, hf]
  dsimp only
  rw [if_neg hn, hi]

theorem lotDefine_reclaimed (hf : findLot n s = none) (hi : freeLot s = none) (ho : oldestClosed s = some i) :
    lotDefine n u b s = placeLot i n u b s := by
  rw [lotDefine, hf]
  dsimp only
  rw [if_neg hn, hi, ho]

theorem lotDefine_full (hf : findLot n s = none) (hi : freeLot s = none) (ho : oldestClosed s = none) :
    lotDefine n u b s = (s, .refused .full .empty) := by
  rw [lotDefine, hf]
  dsimp only
  rw [if_neg hn, hi, ho]

end lotDefine

/-! ### The outcomes of LOT CLOSE (R9) -/

section lotClose

variable {n i : Nat} {l : Lot} {s : State}

theorem lotClose_noSuch (hf : findLot n s = none) : lotClose n s = (s, .refused .noSuch .empty) := by
  rw [lotClose, hf]

variable (hf : findLot n s = some (i, l))
include hf

theorem lotClose_inUse (hu : 0 < lotUses n s) : lotClose n s = (s, .refused .inUse .empty) := by
  rw [lotClose, hf]
  exact if_pos hu

theorem lotClose_closed {k : Nat} (hu : lotUses n s = 0) (hl : l.state = .closed k) : lotClose n s = (s, .done .empty) := by
  rw [lotClose, hf]
  dsimp only
  rw [if_neg (by omega), hl]

theorem lotClose_opened (hu : lotUses n s = 0) (hl : l.state = .opened) :
    lotClose n s = (write (.lot i (some { l with state := .closed (highestRank s + 1) })) s, .done .empty) := by
  rw [lotClose, hf]
  dsimp only
  rw [if_neg (by omega), hl]

end lotClose

/-! ### The two requests on a free link -/

/-- A request on a free link that changes the lots alone. -/
theorem request_lotsOnly (c : Instr) (tag : Nat) (r : Request) (rep : Reply) (s t : State)
    (hc : c.request? = some (tag, r)) (h : linkFree s) (ha : act r (taken (requested tag r) s) = (t, rep))
    (ht : LotsOnly (taken (requested tag r) s) t) :
    ∃ u, exec c s = .next u ∧ (∀ j, u.lot j = t.lot j) ∧ u.plantLink = answering s.plantLink (requested tag r) rep ∧
      u.store = { s.store with lots := u.store.lots, damaged := u.store.damaged } ∧ u.orders = s.orders := by
  obtain ⟨-, -, -, -, hreply, hsending, -⟩ := id h
  obtain ⟨lots, damaged, journal, rfl⟩ := ht
  obtain ⟨u, hu, hset, -⟩ := request_completes c tag r rep s _
    { s with store := { s.store with lots := lots, damaged := damaged } } [] hc h ha rfl hsending hreply rfl
    List.nil_prefix
  unfold Settled at hset
  refine ⟨u, hu, ?_⟩
  rw [hset]
  exact ⟨fun _ => rfl, rfl, rfl, rfl⟩

/-- A LOT DEFINE that puts the OPEN lot into an entry without a rank writes that entry alone. -/
theorem lotDefine_writes {tag n u b i : Nat} {s : State} (h : linkFree s) (hi : rankOf i s = none)
    (hp : ∀ q, lotDefine n u b (taken q s) = placeLot i n u b (taken q s)) :
    Completes (.lotDefine tag n u b) s
      ((write (.lot i (some (openedLot n u b))) s).answered tag (.lotDefine n u b) (.done (.lot (openedLot n u b))))
      [replyFrame tag (.lotDefine n u b) (.done (.lot (openedLot n u b)))] :=
  request_writes _ tag (.lotDefine n u b) _ _ s rfl h ((hp _).trans (placeLot_unranked i n u b (taken _ s) hi))

/-- A LOT DEFINE that puts the OPEN lot into an entry with a rank closes up the ranks above it. -/
theorem lotDefine_reopens {tag n u b i k : Nat} {s : State} (h : linkFree s) (hi : rankOf i s = some k)
    (hp : ∀ q, lotDefine n u b (taken q s) = placeLot i n u b (taken q s)) :
    ∃ t, exec (.lotDefine tag n u b) s = .next t ∧ t.lot i = some (openedLot n u b) ∧
      (∀ j, j ≠ i → t.lot j = (s.lot j).map (lowerLot k)) ∧
      t.plantLink = answering s.plantLink (requested tag (.lotDefine n u b)) (.done (.lot (openedLot n u b))) ∧
      t.store = { s.store with lots := t.store.lots, damaged := t.store.damaged } ∧ t.orders = s.orders := by
  obtain ⟨t, ht, hlots, hkept⟩ := request_lotsOnly (.lotDefine tag n u b) tag (.lotDefine n u b) _ s _ rfl h
    (hp _) (placeLot_lotsOnly i n u b _)
  refine ⟨t, ht, ?_, fun j hj => ?_, hkept⟩
  · rw [hlots]
    exact placeLot_lot_same n u b (s := taken _ s) hi
  · rw [hlots]
    exact placeLot_lot_other n u b (s := taken _ s) hi hj

/-- Settles O22, by the outcomes of `lotDefine` and `lotClose`. -/
theorem lotsAreDefinedAndClosed : Obligations.LotsAreDefinedAndClosed := by
  intro tag n u b i rank l s h new defined lowered reopened refused
  refine ⟨fun hr => ?_, fun h1 h2 hu hb => ?_, fun hf => ?_, fun hf hu => ?_, fun hf hu hl => ?_, fun hf hu hl => ?_⟩
  · exact request_refused _ tag (.lotDefine n u b) _ s _ rfl h (lotDefine_range (s := taken _ s) hr) List.nil_prefix
  · have hn : ¬ (n < 1 ∨ 65535 < n ∨ 450 < u ∨ 3 < b) := by omega
    refine ⟨fun hf hi => ?_, fun hf huse => ?_, fun hf huse hl => ?_, fun hf huse hl => ?_, fun hf hi hr hpos hlow => ?_,
      fun hf hi hr => ?_⟩
    · exact lotDefine_writes h (rankOf_free (lot_of_freeLot hi)) fun q => lotDefine_free (s := taken q s) hn hf hi
    · exact request_refused _ tag (.lotDefine n u b) _ s _ rfl h (lotDefine_inUse (s := taken _ s) hn hf huse) List.nil_prefix
    · exact lotDefine_writes h (rankOf_opened (lot_of_findLot hf) hl) fun q => lotDefine_known (s := taken q s) hn hf huse
    · exact lotDefine_reopens h (rankOf_closed (lot_of_findLot hf) hl) fun q => lotDefine_known (s := taken q s) hn hf huse
    · exact lotDefine_reopens h hr fun q =>
        lotDefine_reclaimed (s := taken q s) hn hf hi (oldestClosed_some (s := taken q s) hr hpos hlow)
    · exact request_refused _ tag (.lotDefine n u b) _ s _ rfl h
        (lotDefine_full (s := taken _ s) hn hf hi (oldestClosed_none (s := taken _ s) hr)) List.nil_prefix
  · exact request_refused _ tag (.lotClose n) _ s _ rfl h (lotClose_noSuch (s := taken _ s) hf) List.nil_prefix
  · exact request_refused _ tag (.lotClose n) _ s _ rfl h (lotClose_inUse (s := taken _ s) hf hu) List.nil_prefix
  · exact request_refused _ tag (.lotClose n) _ s _ rfl h (lotClose_closed (s := taken _ s) hf hu hl) List.nil_prefix
  · exact request_writes _ tag (.lotClose n) _ _ s rfl h (lotClose_opened (s := taken _ s) hf hu hl)

end Sys2Proof.Proofs
end

section
/-! PROOF. The six queries that change nothing but the Plant Link (R5, R11, R23, R34, R60, R165). -/

namespace Sys2Proof.Proofs

open Sys2Proof.Machine

/-! ### QUERY QUEUE (R23, R25, R26) -/

/-- R23: the line of a queued order at a place. -/
def queueLine (s : State) (place : Nat) (o : Order) : QueueLine :=
  { place := place, order := o, mixer := mixerFor o.choice s, slotFree := (freeSlotNumber s).isSome,
    positions := (walk o s).length }

theorem queueLines_eq_mapIdx (s : State) (k : Nat) (l : List Order) :
    queueLines s k l = l.mapIdx fun i o => queueLine s (k + i) o := by
  induction l generalizing k with
  | nil => rfl
  | cons o rest ih =>
    rw [queueLines, ih, List.mapIdx_cons]
    simp only [Nat.add_zero, Nat.add_right_comm, Nat.add_assoc, queueLine]

theorem queueLines_length (s : State) (k : Nat) (l : List Order) : (queueLines s k l).length = l.length := by
  rw [queueLines_eq_mapIdx, List.length_mapIdx]

theorem queueLines_getElem? (s : State) (k n : Nat) (l : List Order) :
    (queueLines s k l)[n]? = l[n]?.map (queueLine s (k + n)) := by
  rw [queueLines_eq_mapIdx, List.getElem?_mapIdx]

/-- R25: for each choice, mixer A where it is IDLE and may be taken, else mixer B. -/
theorem mixerFor_eq (c : MixerChoice) (s : State) :
    mixerFor c s =
      if c ≠ .b ∧ (s.seq .a).state = .idle then some .a
      else if c ≠ .a ∧ (s.seq .b).state = .idle then some .b else none := by
  cases c with
  | a => simp [mixerFor, mixerIdle]
  | b => simp [mixerFor, mixerIdle]
  | any => simp [mixerFor, mixerIdle]

/-- R26 (1), (2): the reservation walk does not skip the bay. -/
abbrev BayTakes (s : State) (b : Nat) : Prop :=
  (s.bayState b = .empty ∨ s.bayState b = .filling) ∧
  ((s.aligner b).state = .syncing ∨ (s.aligner b).state = .locked)

theorem bayOpen_eq_decide (b : Nat) (s : State) : bayOpen b s = decide (BayTakes s b) := by
  rw [Bool.eq_iff_iff, bayOpen, Bool.and_eq_true, decide_eq_true_eq]
  refine and_congr ?_ ?_
  · cases s.bayState b <;> decide
  · cases (s.aligner b).state <;> decide

theorem isFree_eq_decide (e : Entry) : e.isFree = decide (e = .free) := by cases e <;> rfl

/-- R26: the walk holds the FREE positions of the bays it does not skip, up to N. -/
theorem walk_length (o : Order) (s : State) :
    (walk o s).length =
      min o.count (((bayListOf o s).filter fun b => decide (BayTakes s b)).flatMap fun b =>
        (s.settings b).fillOrder.filter fun p => decide (s.entry p = .free)).length := by
  simp only [walk, List.length_take, bayOpen_eq_decide, freeInOrder, isFree_eq_decide]

/-- R29: whether a slot is free. -/
theorem freeSlotNumber_isSome (s : State) :
    (freeSlotNumber s).isSome = (List.range' 1 32).any fun k => (s.batch k).isNone := List.isSome_find?

/-! ### QUERY LOT (R11) -/

theorem insertLot_perm (x : Lot × Nat) (l : List (Lot × Nat)) : (insertLot x l).Perm (x :: l) := by
  induction l with
  | nil => exact .refl [x]
  | cons y rest ih =>
    rw [insertLot]
    split
    · exact .refl _
    · exact (ih.cons y).trans (.swap x y rest)

/-- A lot put into a list in rising order of number leaves it in rising order. -/
theorem insertLot_pairwise (x : Lot × Nat) (l : List (Lot × Nat))
    (h : l.Pairwise fun x y => x.1.number ≤ y.1.number) :
    (insertLot x l).Pairwise fun x y => x.1.number ≤ y.1.number := by
  induction l with
  | nil => exact List.pairwise_singleton _ x
  | cons y rest ih =>
    obtain ⟨hy, hrest⟩ := List.pairwise_cons.1 h
    rw [insertLot]
    split
    · next hxy =>
      refine List.pairwise_cons.2 ⟨fun z hz => ?_, h⟩
      rcases List.mem_cons.1 hz with rfl | hz
      · exact hxy
      · exact Nat.le_trans hxy (hy z hz)
    · next hxy =>
      refine List.pairwise_cons.2 ⟨fun z hz => ?_, ih hrest⟩
      rcases List.mem_cons.1 ((insertLot_perm x rest).mem_iff.1 hz) with rfl | hz
      · exact Nat.le_of_not_le hxy
      · exact hy z hz

theorem lotList_pairwise (s : State) : (lotList s).Pairwise fun x y => x.1.number ≤ y.1.number := by
  rw [lotList]
  generalize (allLots.filterMap fun i => (s.lot i).map fun l => (l, lotUses l.number s)) = lots
  induction lots with
  | nil => exact .nil
  | cons x rest ih => exact insertLot_pairwise x _ ih

theorem mem_lotList (l : Lot) (k : Nat) (s : State) :
    (l, k) ∈ lotList s ↔ (∃ i, s.lot i = some l) ∧ k = lotUses l.number s := by
  rw [lotList, (foldr_perm insertLot_perm _).mem_iff, List.mem_filterMap]
  constructor
  · rintro ⟨i, -, hi⟩
    obtain ⟨x, hx, he⟩ := Option.map_eq_some_iff.1 hi
    obtain ⟨rfl, rfl⟩ := Prod.mk.inj he
    exact ⟨⟨i, hx⟩, rfl⟩
  · rintro ⟨⟨i, hi⟩, rfl⟩
    exact ⟨i, mem_allLots_of_lot hi, by rw [hi]; rfl⟩

theorem queryLot_held {n i : Nat} {l : Lot} (s : State) (hn : n ≠ 0) (hf : findLot n s = some (i, l)) :
    queryLot n s = (s, .done (.lotUses l (lotUses n s))) := by
  rw [queryLot, if_neg hn, hf]

theorem queryLot_noSuch {n : Nat} (s : State) (hn : n ≠ 0) (hf : findLot n s = none) :
    queryLot n s = (s, .refused .noSuch .empty) := by
  rw [queryLot, if_neg hn, hf]

/-! ### QUERY BATCH (R34) -/

/-- The first number of a range at which a search succeeds gives its result. -/
theorem findSome?_range'_first {α : Type} {f : Nat → Option α} {x : α} {k : Nat} (a n : Nat) (hk : f k = some x)
    (ha : a ≤ k) (hn : k < a + n) (hfirst : ∀ j, j < k → f j = none) : (List.range' a n).findSome? f = some x := by
  induction n generalizing a with
  | zero => omega
  | succ n ih =>
    rw [List.range'_succ, List.findSome?_cons]
    by_cases hak : a = k
    · rw [hak, hk]
    · rw [hfirst a (by omega)]
      exact ih (a + 1) (by omega) (by omega)

/-- R34: the lowest-numbered slot that holds a batch ID, with its record. -/
def slotNamed (id : Nat) (s : State) : Option (Nat × BatchRecord) :=
  allSlots.findSome? fun k => match s.batch k with
    | some r => if r.id = id then some (k, r) else none
    | none => none

theorem slotNamed_first {k : Nat} {r : BatchRecord} {s : State} (hk : s.batch k = some r)
    (hfirst : ∀ j q, j < k → s.batch j = some q → q.id ≠ r.id) : slotNamed r.id s = some (k, r) := by
  obtain ⟨h1, h32⟩ := at1_mem hk
  refine findSome?_range'_first 1 32 (by simp only [hk, if_true]) h1 (by omega) fun j hj => ?_
  cases hq : s.batch j with
  | none => rfl
  | some q => exact if_neg (hfirst j q hj hq)

theorem slotNamed_none {n : Nat} {s : State} (h : ∀ k r, s.batch k = some r → r.id ≠ n) : slotNamed n s = none := by
  refine List.findSome?_eq_none_iff.2 fun k _ => ?_
  cases hk : s.batch k with
  | none => rfl
  | some r => exact if_neg (h k r hk)

theorem queryBatch_held {n k : Nat} {r : BatchRecord} (s : State) (hn : n ≠ 0) (h : slotNamed n s = some (k, r)) :
    queryBatch n s = (s, .done (.batch k r (stillReserved k r s))) := by
  rw [queryBatch, if_neg hn]
  split
  · next hs => cases hs.symm.trans h; rfl
  · next hs => cases hs.symm.trans h

theorem queryBatch_noSuch {n : Nat} (s : State) (hn : n ≠ 0) (h : slotNamed n s = none) :
    queryBatch n s = (s, .refused .noSuch .empty) := by
  rw [queryBatch, if_neg hn]
  split
  · next hs => cases hs.symm.trans h
  · rfl

/-! ### QUERY CLASS, QUERY MIXER and QUERY CAST (R5, R60, R165) -/

theorem queryClass_inRange {n : Nat} (s : State) (h1 : 1 ≤ n) (h6 : n ≤ 6) :
    queryClass n s =
      (s, .done (.classInfo (s.cls n) (s.orders.filter fun o => decide (o.cls = n)).length
        (countRunning (fun r => decide (r.cls = some n)) s) (countCasts (fun c => decide (c.cls = n)) s))) :=
  if_neg (by omega)

theorem queryMixer_named {n : Nat} {m : Mixer} (s : State) (h : mixerOfCode n = some m) :
    queryMixer n s =
      (s, .done (.mixer
        { sequencer := s.seq m, now := s.oscillator, record := (batchOf m s).map (·.2), contents := contents m s,
          standing := standingOf m s, castIndex := (s.station m).castIndex, marker := s.marker m })) := by
  rw [queryMixer, namingMixer, h]

theorem queryMixer_range {n : Nat} (s : State) (h : mixerOfCode n = none) :
    queryMixer n s = (s, .refused .range .empty) := by
  rw [queryMixer, namingMixer, h]

theorem queryCast_held {n p : Nat} (s : State) (h : findCast n s = some p) :
    queryCast (.byId n) s = (s, .done (.cast (castInfo p s))) := by
  simp only [queryCast, h]

theorem queryCast_noSuch {n : Nat} (s : State) (h : findCast n s = none) :
    queryCast (.byId n) s = (s, .refused .noSuch .empty) := by
  simp only [queryCast, h]

theorem queryCast_position {n : Nat} (s : State) (h1 : 1 ≤ n) (h288 : n ≤ 288) :
    queryCast (.byPosition n) s = (s, .done (.cast (castInfo n s))) := if_neg (by omega)

theorem castInfo_cast {n : Nat} {c : CastPart} {k : ClassRecord} (s : State) (hc : s.castAt n = some c)
    (hk : s.cls c.cls = some k) :
    castInfo n s =
      { position := n, entry := .occupied c, age := (s.clock - c.pourTime) / 60
        figures := some
          { target := k.target, lacking := k.target - c.maturity,
            minAgeLeft := k.minAge * 3600 - (s.clock - c.pourTime),
            maxAgeLeft := k.maxAge * 3600 - (s.clock - c.pourTime), gapAllow := k.gapAllow, dryAllow := k.dryAllow }
        bayState := s.bayState (bayOf n), aligner := (s.aligner (bayOf n)).state } := by
  have he : s.entry n = .occupied c := by
    unfold State.castAt at hc
    cases he : s.entry n with
    | occupied x => rw [he] at hc; cases hc; rfl
    | _ => rw [he] at hc; cases hc
  simp only [castInfo, hc, hk, he, Option.map_some, Option.getD_some, Option.bind_some, classFigures, ageOf]

/-! ### The queries on a free link -/

section unchanged

variable (q : Received) (s : State)

/-- A request in hand is not among what a query looks at. -/
theorem queueLines_taken (k : Nat) (l : List Order) : queueLines (taken q s) k l = queueLines s k l := by
  rw [queueLines_eq_mapIdx, queueLines_eq_mapIdx]
  rfl

theorem queryMixer_taken (n : Nat) : queryMixer n (taken q s) = (taken q s, (queryMixer n s).2) := by
  cases h : mixerOfCode n with
  | none => rw [queryMixer_range _ h, queryMixer_range s h]
  | some m => rw [queryMixer_named _ h, queryMixer_named s h]; rfl

theorem queryBatch_taken (n : Nat) : queryBatch n (taken q s) = (taken q s, (queryBatch n s).2) := by
  by_cases hn : n = 0
  · subst hn; rfl
  · cases h : slotNamed n s with
    | none => rw [queryBatch_noSuch s hn h, queryBatch_noSuch (taken q s) hn h]
    | some x => rw [queryBatch_held s hn h, queryBatch_held (taken q s) hn h]; rfl

theorem queryClass_taken (n : Nat) : queryClass n (taken q s) = (taken q s, (queryClass n s).2) := by
  unfold queryClass
  split
  · rfl
  · rfl

theorem queryLot_taken (n : Nat) : queryLot n (taken q s) = (taken q s, (queryLot n s).2) := by
  by_cases hn : n = 0
  · subst hn; rfl
  · cases hf : findLot n s with
    | none => rw [queryLot_noSuch s hn hf, queryLot_noSuch (taken q s) hn hf]
    | some x => rw [queryLot_held s hn hf, queryLot_held (taken q s) hn hf]; rfl

theorem queryCast_taken (ref : CastRef) : queryCast ref (taken q s) = (taken q s, (queryCast ref s).2) := by
  cases ref with
  | byId n =>
    cases hf : findCast n s with
    | none => rw [queryCast_noSuch s hf, queryCast_noSuch (taken q s) hf]
    | some p => rw [queryCast_held s hf, queryCast_held (taken q s) hf]; rfl
  | byPosition n =>
    unfold queryCast
    dsimp only
    split
    · rfl
    · rfl

end unchanged

/-- A query that acts alike with its request in hand is answered at once and changes nothing but the Plant Link. -/
theorem query_completes (c : Instr) (tag : Nat) (r : Request) (rep : Reply) (s : State)
    (hc : c.request? = some (tag, r)) (h : linkFree s)
    (ha : act r (taken (requested tag r) s) = (taken (requested tag r) s, rep)) :
    Completes c s (s.answered tag r rep) [replyFrame tag r rep] :=
  request_refused c tag r rep s _ hc h ha List.prefix_rfl

theorem queries_complete (tag n : Nat) (ref : CastRef) (s : State) (h : linkFree s) :
    Completes (.queryMixer tag n) s (s.answered tag (.queryMixer n) (queryMixer n s).2)
      [replyFrame tag (.queryMixer n) (queryMixer n s).2] ∧
    Completes (.queryQueue tag) s (s.answered tag .queryQueue (.done (.queue (queueLines s 1 s.orders)))) [] ∧
    Completes (.queryBatch tag n) s (s.answered tag (.queryBatch n) (queryBatch n s).2)
      [replyFrame tag (.queryBatch n) (queryBatch n s).2] ∧
    Completes (.queryClass tag n) s (s.answered tag (.queryClass n) (queryClass n s).2)
      [replyFrame tag (.queryClass n) (queryClass n s).2] ∧
    Completes (.queryLot tag n) s (s.answered tag (.queryLot n) (queryLot n s).2)
      [replyFrame tag (.queryLot n) (queryLot n s).2] ∧
    Completes (.queryCast tag ref) s (s.answered tag (.queryCast ref) (queryCast ref s).2)
      [replyFrame tag (.queryCast ref) (queryCast ref s).2] := by
  refine ⟨?_, ?_, ?_, ?_, ?_, ?_⟩
  · exact query_completes _ tag (.queryMixer n) _ s rfl h (queryMixer_taken _ s n)
  · refine request_refused _ tag .queryQueue _ s _ rfl h ?_ List.nil_prefix
    exact congrArg (fun l => (taken (requested tag .queryQueue) s, Reply.done (.queue l))) (queueLines_taken _ s 1 s.orders)
  · exact query_completes _ tag (.queryBatch n) _ s rfl h (queryBatch_taken _ s n)
  · exact query_completes _ tag (.queryClass n) _ s rfl h (queryClass_taken _ s n)
  · exact query_completes _ tag (.queryLot n) _ s rfl h (queryLot_taken _ s n)
  · exact query_completes _ tag (.queryCast ref) _ s rfl h (queryCast_taken _ s ref)

/-- R23, R25, R26: what the line of the order at a place says, in terms of the mixers, the slots and the bays. -/
theorem queueLine_eq (s : State) (place : Nat) (o : Order) :
    queueLine s place o =
      { place := place, order := o
        mixer :=
          if o.choice ≠ .b ∧ (s.seq .a).state = .idle then some .a
          else if o.choice ≠ .a ∧ (s.seq .b).state = .idle then some .b else none
        slotFree := (List.range' 1 32).any fun k => (s.batch k).isNone
        positions := min o.count (((bayListOf o s).filter fun b => decide (BayTakes s b)).flatMap fun b =>
          (s.settings b).fillOrder.filter fun p => decide (s.entry p = .free)).length } := by
  rw [queueLine, mixerFor_eq, freeSlotNumber_isSome, walk_length]

/-- Settles O15: the six answers by `queries_complete`, and what each reply carries by the lemma of its query. -/
theorem queriesChangeNothing : Obligations.QueriesChangeNothing := by
  intro tag n ref s h
  refine ⟨queries_complete tag n ref s h, queueLines_length s 1 s.orders, ?queue, ?cls, ?clsRange, rfl,
    lotList_pairwise s, fun l k => mem_lotList l k s, ?lot, ?noLot, rfl, ?batch, ?noBatch, ?mixer, ?mixerRange,
    ?cast, ?noCast, ?position, ?positionRange, fun c k => castInfo_cast s⟩
  case queue =>
    intro o ho idle bays takes held
    rw [queueLines_getElem?, ho, Option.map_some, queueLine_eq, Nat.add_comm 1 n]
    rfl
  case cls => exact fun h1 h6 => congrArg Prod.snd (queryClass_inRange s h1 h6)
  case clsRange => exact fun hn => congrArg Prod.snd (if_pos hn)
  case lot => exact fun i l hn hf => congrArg Prod.snd (queryLot_held s hn hf)
  case noLot => exact fun hn hl => congrArg Prod.snd (queryLot_noSuch s hn (findLot_none_of hl))
  case batch =>
    rintro k r hn hk rfl hfirst
    exact congrArg Prod.snd (queryBatch_held s hn (slotNamed_first hk hfirst))
  case noBatch => exact fun hn hb => congrArg Prod.snd (queryBatch_noSuch s hn (slotNamed_none hb))
  case mixer => exact fun m hm => congrArg Prod.snd (queryMixer_named s hm)
  case mixerRange => exact fun hm => congrArg Prod.snd (queryMixer_range s hm)
  case cast => exact fun p hp => congrArg Prod.snd (queryCast_held s hp)
  case noCast => exact fun hc => congrArg Prod.snd (queryCast_noSuch s hc)
  case position => exact fun h1 h288 => congrArg Prod.snd (queryCast_position s h1 h288)
  case positionRange => exact fun hn => congrArg Prod.snd (if_pos hn)

end Sys2Proof.Proofs
end

section
/-! PROOF. Properties of a state that every named update of the bays, the mixers and the batches keeps: each operation of those blocks then keeps them. One lemma for each operation, for all such properties at once. -/

namespace Sys2Proof.Proofs

open Sys2Proof.Machine

/-! ### The updates -/

/-- Every update that the sealing of a bay makes keeps the property. -/
structure BayStable (P : State → Prop) : Prop where
  emit : ∀ (o : Output) {t : State}, P t → P (Machine.emit o t)
  raise : ∀ (n : Notice) {t : State}, P t → P (Machine.raise n t)
  link : ∀ (l : StationLink) {t : State}, P t → P { t with stationLink := l }
  bay : ∀ (b : Nat) (f : Bay → Bay) {t : State}, P t → P (withBay b f t)
  settings : ∀ (b : Nat) (r : BaySettings) {t : State}, P t → P (writeSettings b r t)

/-- Every update that the mixers, the stations, the scale, the batches and the Dispatcher make keeps the property. -/
structure FloorStable (P : State → Prop) : Prop extends BayStable P where
  seq : ∀ (m : Mixer) (f : Sequencer → Sequencer) {t : State}, P t → P (withSeq m f t)
  station : ∀ (m : Mixer) (f : PourStation → PourStation) {t : State}, P t → P (withStation m f t)
  entry : ∀ (p : Nat) (e : Entry) {t : State}, P t → P (writeEntry p e t)
  batch : ∀ (k : Nat) (r : Option BatchRecord) {t : State}, P t → P (writeBatch k r t)
  marker : ∀ (m : Mixer) (r : Option Marker) {t : State}, P t → P (writeMarker m r t)
  counter : ∀ (n : Nat) {t : State}, P t → P (write (.batchCounter n) t)
  orders : ∀ (f : Order → Bool) {t : State}, P t → P { t with orders := t.orders.filter f }
  arbiter : ∀ (a : Arbiter) {t : State}, P t → P { t with arbiter := a }
  spaceList : ∀ (l : List Mixer) {t : State}, P t → P { t with spaceList := l }
  reading : ∀ {t : State}, P t → P (takeReading t)

/-- A fold of operations that keep a property keeps it. -/
theorem foldl_keeps {α : Type} {P : State → Prop} (l : List α) (f : State → α → State) (hf : ∀ x u, P u → P (f u x))
    {t : State} (h : P t) : P (l.foldl f t) := by
  induction l generalizing t with
  | nil => exact h
  | cons x l ih => exact ih (hf x t h)

variable {P : State → Prop} {t : State}

/-- R70, R73: the mixer of a resume once its hold record is cleared and the dose deviation set, before its stage is entered. -/
def deviated (m : Mixer) (r : HoldRecord) (s : State) : State :=
  if r.cause = .overdose then setDeviation m (withSeq m (fun q => { q with hold := none, blocked := false }) s)
  else withSeq m (fun q => { q with hold := none, blocked := false }) s

theorem resume_eq (m : Mixer) (r : HoldRecord) (s : State) :
    resume m r s =
      if ((deviated m r s).seq m).overloadInput then holdAgain m r (deviated m r s) else resumeStage m r (deviated m r s) := rfl

/-! ### Sealing -/

section bays

variable (hP : BayStable P)
include hP

theorem actuate_stable (b : Nat) (a : Action) (h : P t) : P (actuate b a t) := by
  unfold actuate
  split
  · exact h
  · exact h
  · exact hP.link _ h

theorem setConditioning_stable (b : Nat) (on : Bool) (h : P t) : P (setConditioning b on t) := by
  unfold setConditioning
  split
  · exact h
  · exact hP.bay _ _ (actuate_stable hP _ _ h)

theorem setBayState_stable (b : Nat) (st : BayState) (h : P t) : P (setBayState b st t) := hP.settings _ _ h

theorem takeStep_stable (b : Nat) (st : SeqStep) (seconds : Nat) (h : P t) : P (takeStep b st seconds t) := hP.bay _ _ h

theorem enterCondition_stable (b : Nat) (h : P t) : P (enterCondition b t) := by
  have hc : P (setConditioning b true t) := setConditioning_stable hP b true h
  unfold enterCondition
  dsimp only
  split
  · exact hP.bay _ _ (takeStep_stable hP _ _ _ hc)
  · exact takeStep_stable hP _ _ _ hc

theorem enterLock_stable (b : Nat) (h : P t) : P (enterLock b t) := by
  have hl : P (takeStep b .lock Config.lockStepLimit (actuate b .lock t)) :=
    takeStep_stable hP _ _ _ (actuate_stable hP _ _ h)
  unfold enterLock
  dsimp only
  split
  · exact enterCondition_stable hP b hl
  · exact hl

theorem enterSealing_stable (b : Nat) (h : P t) : P (enterSealing b t) := by
  have hc : P (takeStep b .close Config.doorStepLimit (actuate b .doorClose (setBayState b .sealing t))) :=
    takeStep_stable hP _ _ _ (actuate_stable hP _ _ (setBayState_stable hP _ _ h))
  unfold enterSealing
  dsimp only
  split
  · exact enterLock_stable hP b hc
  · exact hc

theorem autoSealTest_stable (b : Nat) (h : P t) : P (autoSealTest b t) := by
  unfold autoSealTest sealRequest
  split
  · split
    · exact setBayState_stable hP _ _ h
    · exact enterSealing_stable hP b h
  · exact h

theorem enterFilling_stable (b : Nat) (h : P t) : P (enterFilling b t) :=
  actuate_stable hP _ _ (setBayState_stable hP _ _ h)

theorem bayBooked_stable (b : Nat) (h : P t) : P (bayBooked b t) := by
  unfold bayBooked
  split
  · exact autoSealTest_stable hP b (enterFilling_stable hP b h)
  · exact autoSealTest_stable hP b h
  · exact h

end bays

section floor

variable (hP : FloorStable P)
include hP

/-! ### Batches, the drive, deliveries, the marker -/

theorem updateBatch_stable (k : Nat) (f : BatchRecord → BatchRecord) (h : P t) : P (updateBatch k f t) := by
  unfold updateBatch
  split
  · exact h
  · exact hP.batch _ _ h

theorem updateOwnBatch_stable (m : Mixer) (f : BatchRecord → BatchRecord) (h : P t) : P (updateOwnBatch m f t) := by
  unfold updateOwnBatch
  split
  · exact h
  · exact updateBatch_stable hP _ _ h

theorem writeActual_stable (m : Mixer) (c : Component) (v : Nat) (h : P t) : P (writeActual m c v t) :=
  updateOwnBatch_stable hP _ _ h

theorem setDrive_stable (m : Mixer) (d : Drive) (h : P t) : P (setDrive m d t) := by
  unfold setDrive
  split
  · exact h
  · exact hP.seq _ _ (hP.emit _ h)

theorem deliver_stable (m : Mixer) (ch : Channel) (amount : Nat) (h : P t) : P (deliver m ch amount t) :=
  hP.seq _ _ (hP.emit _ h)

theorem markStage_stable (m : Mixer) (st : Stage) (h : P t) : P (markStage m st t) := by
  unfold markStage
  split
  · exact h
  · exact hP.marker _ _ h

theorem takeState_stable (m : Mixer) (st : MixerState) (stage : Option Stage) (h : P t) : P (takeState m st stage t) :=
  hP.seq _ _ h

theorem beginComponent_stable (m : Mixer) (c : Component) (h : P t) : P (beginComponent m c t) := hP.seq _ _ h

/-- A stage taken and marked. -/
theorem markedStage_stable (m : Mixer) (state : MixerState) (st : Stage) (h : P t) :
    P (markStage m st (takeState m state (some st) t)) := markStage_stable hP _ _ (takeState_stable hP _ _ _ h)

theorem enterAsh_stable (m : Mixer) (h : P t) : P (enterAsh m t) :=
  deliver_stable hP _ _ _ (setDrive_stable hP _ _ (beginComponent_stable hP _ _ (markedStage_stable hP _ _ _ h)))

/-! ### The Dispatcher -/

theorem giveBatch_stable (m : Mixer) (slot id : Nat) (h : P t) : P (giveBatch m slot id t) :=
  enterAsh_stable hP m (hP.seq _ _ h)

theorem startOrder_stable (o : Order) (m : Mixer) (slot : Nat) (ps : List Nat) (h : P t) : P (startOrder o m slot ps t) := by
  unfold startOrder
  refine hP.raise _ (giveBatch_stable hP _ _ _ (foldl_keeps _ _ (fun b _ hu => bayBooked_stable hP.toBayStable b hu) ?_))
  exact foldl_keeps _ _ (fun _ _ hu => hP.entry _ _ hu) (hP.batch _ _ (hP.counter _ (hP.orders _ h)))

theorem scans_stable (n : Nat) (h : P t) : P (scans n t) := by
  induction n generalizing t with
  | zero => exact h
  | succ n ih =>
    unfold scans
    split
    · exact h
    · exact ih (startOrder_stable hP _ _ _ _ h)

theorem dispatch_stable (h : P t) : P (dispatch t) := scans_stable hP _ h

/-! ### The end of a batch -/

theorem enterEmpty_stable (b : Nat) (h : P t) : P (enterEmpty b t) :=
  dispatch_stable hP (hP.raise _ (actuate_stable hP.toBayStable _ _ (setBayState_stable hP.toBayStable _ _ h)))

theorem emptyTest_stable (b : Nat) (h : P t) : P (emptyTest b t) := by
  unfold emptyTest
  split
  · split
    · exact h
    · exact enterEmpty_stable hP b h
  · split
    · exact h
    · exact enterEmpty_stable hP b h
  · split
    · exact h
    · exact enterEmpty_stable hP b h
  · exact h

theorem sealPendingTest_stable (b : Nat) (h : P t) : P (sealPendingTest b t) := by
  unfold sealPendingTest
  split
  · split
    · exact h
    · split
      · exact enterSealing_stable hP.toBayStable b h
      · exact enterEmpty_stable hP b h
  · exact h

theorem releaseAt_stable (slot id p : Nat) (h : P t) : P (releaseAt slot id p t) := by
  unfold releaseAt
  split
  · split
    · exact dispatch_stable hP (sealPendingTest_stable hP _ (emptyTest_stable hP _ (hP.entry _ _ h)))
    · exact h
  · exact h

theorem checkSlot_stable (slot : Nat) (h : P t) : P (checkSlot slot t) := by
  unfold checkSlot
  split
  · exact h
  · split
    · exact dispatch_stable hP (hP.batch _ _ h)
    · exact h

theorem batchEnd_stable (slot : Nat) (cause : EndCause) (h : P t) : P (batchEnd slot cause t) := by
  unfold batchEnd
  split
  · exact h
  · exact checkSlot_stable hP _ (hP.raise _ (foldl_keeps _ _ (fun _ _ hu => releaseAt_stable hP _ _ _ hu) (hP.batch _ _ h)))

/-! ### Pour Stations -/

theorem callMold_stable (m : Mixer) (h : P t) : P (callMold m t) := hP.station _ _ (hP.emit _ h)

theorem givePlace_stable (m : Mixer) (h : P t) : P (givePlace m t) := callMold_stable hP m (hP.station _ _ h)

theorem placeFreed_stable (h : P t) : P (placeFreed t) := by
  unfold placeFreed
  split
  · exact h
  · split
    · exact givePlace_stable hP _ (hP.spaceList _ h)
    · exact h

theorem enterSpace_stable (m : Mixer) (h : P t) : P (enterSpace m t) := by
  unfold enterSpace
  split
  · exact givePlace_stable hP m h
  · exact hP.station _ _ (hP.spaceList _ h)

theorem clearGate_stable (m : Mixer) (h : P t) : P (clearGate m t) := by
  have hw : P (if (t.station m).moldCall.isSome then emit (.moldCallWithdrawn m) t else t) := by
    split
    · exact hP.emit _ h
    · exact h
  unfold clearGate
  dsimp only
  split
  · exact hP.emit _ hw
  · exact hw

theorem giveUpPlace_stable (m : Mixer) (h : P t) : P (giveUpPlace m t) := by
  unfold giveUpPlace
  dsimp only
  split
  · exact placeFreed_stable hP (hP.station _ _ (hP.spaceList _ h))
  · exact hP.station _ _ (hP.spaceList _ h)

theorem stopCycle_stable (m : Mixer) (h : P t) : P (stopCycle m t) :=
  giveUpPlace_stable hP m (hP.station _ _ (clearGate_stable hP m h))

theorem stepWait_stable (m : Mixer) (completed : Stage) (saved : Saved) (h : P t) : P (stepWait m completed saved t) :=
  hP.raise _ (setDrive_stable hP _ _ (hP.seq _ _ h))

theorem enterIdle_stable (m : Mixer) (h : P t) : P (enterIdle m t) :=
  dispatch_stable hP (hP.marker _ _ (setDrive_stable hP _ _ (hP.station _ _ (hP.seq _ _ h))))

theorem enterDischarging_stable (m : Mixer) (cause : Option EndCause) (amount : Nat) (h : P t) :
    P (enterDischarging m cause amount t) :=
  deliver_stable hP _ _ _ (markStage_stable hP _ _ (setDrive_stable hP _ _ (hP.seq _ _ (stopCycle_stable hP m (hP.seq _ _ h)))))

theorem finishBatch_stable (m : Mixer) (h : P t) : P (finishBatch m t) := by
  have hs : P (withSeq m (fun q => { q with potLife := .stopped }) t) := hP.seq _ _ h
  unfold finishBatch
  dsimp only
  split
  · split
    · exact enterDischarging_stable hP _ _ _ hs
    · exact enterDischarging_stable hP _ _ _ (batchEnd_stable hP _ _ hs)
  · split
    · exact enterIdle_stable hP _ hs
    · exact enterIdle_stable hP _ (batchEnd_stable hP _ _ hs)

theorem pourEnd_stable (m : Mixer) (h : P t) : P (pourEnd m t) := by
  unfold pourEnd
  split
  · exact stepWait_stable hP _ _ _ h
  · exact finishBatch_stable hP m h

theorem beginCycle_stable (m : Mixer) (h : P t) : P (beginCycle m t) := by
  unfold beginCycle
  split
  · exact h
  · split
    · exact pourEnd_stable hP m (hP.station _ _ h)
    · exact enterSpace_stable hP m (hP.station _ _ h)

theorem enterPour_stable (m : Mixer) (h : P t) : P (enterPour m t) := by
  unfold enterPour
  dsimp only
  split
  · exact pourEnd_stable hP m (hP.seq _ _ (setDrive_stable hP _ _ (markedStage_stable hP _ _ _ h)))
  · exact beginCycle_stable hP m (hP.seq _ _ (setDrive_stable hP _ _ (markedStage_stable hP _ _ _ h)))

/-! ### The cement scale -/

theorem weigh_stable (m : Mixer) (h : P t) : P (weigh m t) := by
  unfold weigh
  dsimp only
  split
  · exact deliver_stable hP _ _ _ (hP.emit _ h)
  · exact deliver_stable hP _ _ _ (hP.emit _ (beginComponent_stable hP _ _ h))

theorem requestScale_stable (m : Mixer) (h : P t) : P (requestScale m t) := by
  unfold requestScale grant
  split
  · exact weigh_stable hP m (hP.arbiter _ h)
  · split
    · exact h
    · exact hP.arbiter _ h

theorem releaseGrant_stable (h : P t) : P (releaseGrant t) := by
  unfold releaseGrant grant
  split
  · exact hP.arbiter _ h
  · exact weigh_stable hP _ (hP.arbiter _ h)

theorem leaveScale_stable (m : Mixer) (h : P t) : P (leaveScale m t) := by
  unfold leaveScale
  dsimp only
  split
  · exact releaseGrant_stable hP (hP.emit _ (hP.arbiter _ h))
  · exact hP.arbiter _ h

/-! ### Deliveries and holds -/

theorem endDelivery_stable (m : Mixer) (h : P t) : P (endDelivery m t) := hP.seq _ _ h

theorem charge_stable (m : Mixer) (c : Component) (v : Nat) (h : P t) : P (charge m c v t) :=
  writeActual_stable hP _ _ _ (hP.seq _ _ h)

theorem chargeCement_stable (m : Mixer) (v : Nat) (h : P t) : P (chargeCement m v t) :=
  writeActual_stable hP _ _ _ (hP.seq _ _ h)

theorem stopDelivery_stable (m : Mixer) (h : P t) : P (stopDelivery m t) := by
  unfold stopDelivery
  split
  · exact h
  · next d _ =>
    have he : P (endDelivery m (emit (.stopDelivery m d.channel) t)) := endDelivery_stable hP m (hP.emit _ h)
    dsimp only
    split
    · exact charge_stable hP _ _ _ (hP.reading he)
    · exact charge_stable hP _ _ _ (hP.reading he)
    · exact charge_stable hP _ _ _ (hP.reading he)
    · exact he
    · exact chargeCement_stable hP _ _ (hP.reading he)
    · exact h

theorem launchHoldAt_stable (m : Mixer) (cause : HoldCause) (named : Option Component) (st : Stage) (h : P t) :
    P (launchHoldAt m cause named st t) := by
  have hs : P (withSeq m (fun q => { q with mixTimer := none }) (leaveScale m (stopDelivery m t))) :=
    hP.seq _ _ (leaveScale_stable hP m (stopDelivery_stable hP m h))
  unfold launchHoldAt
  dsimp only
  split
  · exact hP.raise _ (hP.seq _ _ (setDrive_stable hP _ _ (hP.seq _ _ (stopCycle_stable hP m hs))))
  · exact hP.raise _ (hP.seq _ _ (setDrive_stable hP _ _ (hP.seq _ _ hs)))

theorem raiseHold_stable (m : Mixer) (cause : HoldCause) (named : Option Component) (h : P t) :
    P (raiseHold m cause named t) := by
  unfold raiseHold
  split
  · split
    · split
      · exact h
      · exact hP.seq _ _ h
    · exact launchHoldAt_stable hP _ _ _ _ h
  · exact h

theorem dischargeNow_stable (m : Mixer) (cause : EndCause) (h : P t) : P (dischargeNow m cause t) :=
  enterDischarging_stable hP _ _ _ (stopDelivery_stable hP m h)

/-! ### Stages -/

theorem startPotLife_stable (m : Mixer) (h : P t) : P (startPotLife m t) := by
  unfold startPotLife
  split
  · exact hP.seq _ _ h
  · exact h

theorem enterMix_stable (m : Mixer) (h : P t) : P (enterMix m t) := by
  unfold enterMix
  exact hP.seq _ _ (setDrive_stable hP _ _ (markedStage_stable hP _ _ _ h))

theorem afterLiquids_stable (m : Mixer) (h : P t) : P (afterLiquids m t) := by
  unfold afterLiquids
  dsimp only
  split
  · exact stepWait_stable hP _ _ _ (hP.seq _ _ h)
  · exact enterMix_stable hP m (hP.seq _ _ h)

theorem doseWater_stable (m : Mixer) (h : P t) : P (doseWater m t) := by
  unfold doseWater
  split
  · exact afterLiquids_stable hP m (writeActual_stable hP _ _ _ h)
  · exact deliver_stable hP _ _ _ (startPotLife_stable hP m (beginComponent_stable hP _ _ h))

theorem enterLiquids_stable (m : Mixer) (h : P t) : P (enterLiquids m t) := by
  have hm : P (markStage m .liquids (takeState m .charging (some .liquids) t)) := markedStage_stable hP _ _ _ h
  unfold enterLiquids
  dsimp only
  split
  · exact doseWater_stable hP m (writeActual_stable hP _ _ _ hm)
  · exact deliver_stable hP _ _ _ (beginComponent_stable hP _ _ hm)

theorem enterCement_stable (m : Mixer) (h : P t) : P (enterCement m t) :=
  requestScale_stable hP m (markedStage_stable hP _ _ _ h)

theorem afterAsh_stable (m : Mixer) (h : P t) : P (afterAsh m t) := by
  unfold afterAsh
  split
  · exact stepWait_stable hP _ _ _ h
  · exact enterCement_stable hP m h

theorem enterStage_stable (m : Mixer) (st : Stage) (h : P t) : P (enterStage m st t) := by
  cases st with
  | ash => exact enterAsh_stable hP m h
  | cement => exact enterCement_stable hP m h
  | liquids => exact enterLiquids_stable hP m h
  | mix => exact enterMix_stable hP m h
  | pour => exact enterPour_stable hP m h
  | discharging => exact h

theorem accept_stable (m : Mixer) (c : Component) (h : P t) : P (accept m c t) := by
  have hs : P (withSeq m (fun q => { q with component := none }) t) := hP.seq _ _ h
  cases c with
  | ash => exact afterAsh_stable hP m hs
  | cement => exact hs
  | water => exact afterLiquids_stable hP m hs
  | chelant =>
    unfold accept
    dsimp only
    split
    · exact doseWater_stable hP m (startPotLife_stable hP m hs)
    · exact doseWater_stable hP m hs

/-! ### A resume -/

theorem putCast_stable (p : Nat) (c : CastPart) (h : P t) : P (putCast p c t) := by
  unfold putCast
  split
  · split
    · exact h
    · exact hP.entry _ _ h
  · exact h

theorem updateCast_stable (p : Nat) (f : CastPart → CastPart) (h : P t) : P (updateCast p f t) := by
  unfold updateCast
  split
  · exact putCast_stable hP _ _ h
  · exact h

theorem evaluateAt_stable (p : Nat) (h : P t) : P (evaluateAt p t) := by
  unfold evaluateAt
  split
  · exact h
  · dsimp only
    split
    · exact putCast_stable hP _ _ h
    · exact hP.raise _ (putCast_stable hP _ _ h)

theorem doseAt_stable (slot id p : Nat) (h : P t) : P (doseAt slot id p t) := by
  unfold doseAt
  split
  · exact h
  · split
    · dsimp only
      split
      · exact evaluateAt_stable hP _ (updateCast_stable hP _ _ h)
      · exact updateCast_stable hP _ _ h
    · exact h

theorem setDeviation_stable (m : Mixer) (h : P t) : P (setDeviation m t) := by
  unfold setDeviation
  split
  · exact h
  · exact foldl_keeps _ _ (fun _ _ hu => doseAt_stable hP _ _ _ hu) (updateBatch_stable hP _ _ h)

theorem continueDose_stable (m : Mixer) (ch : Channel) (c : Component) (r : HoldRecord) (h : P t) :
    P (continueDose m ch c r t) := by
  unfold continueDose
  dsimp only
  split
  · exact deliver_stable hP _ _ _ h
  · split
    · exact raiseHold_stable hP _ _ _ h
    · exact accept_stable hP _ _ h

theorem takeStage_stable (m : Mixer) (st : Stage) (h : P t) : P (takeStage m st t) := by
  cases st with
  | ash => exact markedStage_stable hP _ _ _ h
  | cement => exact markedStage_stable hP _ _ _ (hP.seq _ _ h)
  | liquids => exact markedStage_stable hP _ _ _ h
  | mix => exact markedStage_stable hP _ _ _ h
  | pour => exact markedStage_stable hP _ _ _ (hP.station _ _ h)
  | discharging => exact h

theorem resumeStage_stable (m : Mixer) (r : HoldRecord) (h : P t) : P (resumeStage m r t) := by
  unfold resumeStage
  split
  · exact continueDose_stable hP _ _ _ _ (takeStage_stable hP _ _ h)
  · exact continueDose_stable hP _ _ _ _ (takeStage_stable hP _ _ h)
  · exact continueDose_stable hP _ _ _ _ (takeStage_stable hP _ _ h)
  · exact enterCement_stable hP _ (hP.seq _ _ h)
  · exact enterPour_stable hP _ (hP.station _ _ h)
  · exact enterStage_stable hP _ _ h

theorem holdAgain_stable (m : Mixer) (r : HoldRecord) (h : P t) : P (holdAgain m r t) := by
  unfold holdAgain
  dsimp only
  refine raiseHold_stable hP _ _ _ ?_
  split
  · exact resumeStage_stable hP _ _ h
  · exact takeStage_stable hP _ _ h

theorem deviated_stable (m : Mixer) (r : HoldRecord) (h : P t) : P (deviated m r t) := by
  unfold deviated
  split
  · exact setDeviation_stable hP m (hP.seq _ _ h)
  · exact hP.seq _ _ h

theorem resume_stable (m : Mixer) (r : HoldRecord) (h : P t) : P (resume m r t) := by
  rw [resume_eq]
  split
  · exact holdAgain_stable hP _ _ (deviated_stable hP m r h)
  · exact resumeStage_stable hP _ _ (deviated_stable hP m r h)

end floor

/-! ### What is so kept -/

/-- A request is in hand whose reply is not formed, and nothing is being sent: what is raised waits (R179, R181). -/
def AwaitsReply (q : Received) (t : State) : Prop :=
  t.plantLink.inHand = some q ∧ t.plantLink.reply = none ∧ t.plantLink.sending = none ∧ t.plantLink.held = none

theorem awaitsReply_stable (q : Received) : FloorStable (AwaitsReply q) where
  emit _ _ h := h
  raise n t h := by
    obtain ⟨hhand, hreply, hsending, hheld⟩ := h
    rw [raise_waits n t hheld hsending hreply (by rw [hhand]; rfl), queueNotice]
    split
    · exact ⟨hhand, hreply, hsending, hheld⟩
    · exact ⟨hhand, hreply, hsending, hheld⟩
  link _ _ h := h
  bay _ _ _ h := h
  settings _ _ _ h := h
  seq _ _ _ h := h
  station _ _ _ h := h
  entry _ _ _ h := h
  batch _ _ _ h := h
  marker _ _ _ h := h
  counter _ _ h := h
  orders _ _ h := h
  arbiter _ _ h := h
  spaceList _ _ h := h
  reading h := h

theorem hallKept_stable (s : State) : FloorStable (HallKept s) where
  emit _ _ h := h
  raise n t h := by
    unfold HallKept
    rw [raise_eq]
    exact h
  link _ _ h := h
  bay _ _ _ h := h
  settings _ _ _ h := h
  seq _ _ _ h := h
  station _ _ _ h := h
  entry _ _ _ h := h
  batch _ _ _ h := h
  marker _ _ _ h := h
  counter _ _ h := h
  orders _ _ h := h
  arbiter _ _ h := h
  spaceList _ _ h := h
  reading h := h

theorem hallKept_refl (s : State) : HallKept s s := ⟨rfl, rfl, rfl, rfl, rfl, rfl, rfl⟩

/-- With no order waiting, none comes to wait. -/
theorem noOrders_stable : FloorStable (fun t => t.orders = []) where
  emit _ _ h := h
  raise n t h := (raise_orders n t).trans h
  link _ _ h := h
  bay _ _ _ h := h
  settings _ _ _ h := h
  seq _ _ _ h := h
  station _ _ _ h := h
  entry _ _ _ h := h
  batch _ _ _ h := h
  marker _ _ _ h := h
  counter _ _ h := h
  orders f t h := by rw [h]; rfl
  arbiter _ _ h := h
  spaceList _ _ h := h
  reading h := h

/-- The sealing of a bay leaves the mixers. -/
theorem mixers_stable (s : State) : BayStable (fun t => t.mixers = s.mixers) where
  emit _ _ h := h
  raise n t h := (raise_mixers n t).trans h
  link _ _ h := h
  bay _ _ _ h := h
  settings _ _ _ h := h

end Sys2Proof.Proofs
end

section
/-! PROOF. The sequencer, the station and the batch of a mixer as each named update and each shared operation leaves them (R36 to R42, R50, R54, R57). -/

namespace Sys2Proof.Proofs

open Sys2Proof.Machine

/-! ### The sequencers -/

@[simp] theorem withSeq_seq (m : Mixer) (f : Sequencer → Sequencer) (s : State) : (withSeq m f s).seq m = f (s.seq m) :=
  get_put_same _ _ _

theorem withSeq_seq_other {m k : Mixer} (f : Sequencer → Sequencer) (s : State) (h : k ≠ m) :
    (withSeq m f s).seq k = s.seq k := get_put_other _ _ _ _ h

/-- A sequencer that is left as it is. -/
theorem withSeq_unchanged {m : Mixer} {f : Sequencer → Sequencer} {s : State} (h : f (s.seq m) = s.seq m) :
    withSeq m f s = s := by
  unfold withSeq
  rw [h, State.seq, put_get]

@[simp] theorem emit_seq (o : Output) (s : State) (k : Mixer) : (emit o s).seq k = s.seq k := rfl
@[simp] theorem write_seq (r : Retained) (s : State) (k : Mixer) : (write r s).seq k = s.seq k := rfl
@[simp] theorem begin_seq (s : State) (k : Mixer) : (begin s).seq k = s.seq k := rfl
@[simp] theorem withStation_seq (m : Mixer) (f : PourStation → PourStation) (s : State) (k : Mixer) :
    (withStation m f s).seq k = s.seq k := rfl
@[simp] theorem raise_seq (n : Notice) (s : State) (k : Mixer) : (raise n s).seq k = s.seq k := by rw [raise_eq]; rfl

/-! ### The stations -/

@[simp] theorem emit_station (o : Output) (s : State) (k : Mixer) : (emit o s).station k = s.station k := rfl
@[simp] theorem write_station (r : Retained) (s : State) (k : Mixer) : (write r s).station k = s.station k := rfl
@[simp] theorem begin_station (s : State) (k : Mixer) : (begin s).station k = s.station k := rfl
@[simp] theorem withSeq_station (m : Mixer) (f : Sequencer → Sequencer) (s : State) (k : Mixer) :
    (withSeq m f s).station k = s.station k := rfl
@[simp] theorem raise_station (n : Notice) (s : State) (k : Mixer) : (raise n s).station k = s.station k := by
  rw [raise_eq]; rfl

/-! ### A mixer's batch -/

theorem batchOf_congr {m : Mixer} {s t : State} (hq : (t.seq m).batch = (s.seq m).batch)
    (hb : t.store.batches = s.store.batches) : batchOf m t = batchOf m s := by
  unfold batchOf State.batch
  rw [hq, hb]

@[simp] theorem batchOf_emit (m : Mixer) (o : Output) (s : State) : batchOf m (emit o s) = batchOf m s := rfl
@[simp] theorem batchOf_begin (m : Mixer) (s : State) : batchOf m (begin s) = batchOf m s := rfl
@[simp] theorem batchOf_withStation (m k : Mixer) (f : PourStation → PourStation) (s : State) :
    batchOf m (withStation k f s) = batchOf m s := rfl
@[simp] theorem batchOf_raise (m : Mixer) (n : Notice) (s : State) : batchOf m (raise n s) = batchOf m s :=
  batchOf_congr (by simp) (by simp)
@[simp] theorem batchOf_writeMarker (m k : Mixer) (r : Option Marker) (s : State) :
    batchOf m (writeMarker k r s) = batchOf m s := rfl

/-- A sequencer keeps its batch where its reference is kept. -/
@[simp] theorem batchOf_withSeq (m : Mixer) (f : Sequencer → Sequencer) (s : State)
    (h : (f (s.seq m)).batch = (s.seq m).batch) : batchOf m (withSeq m f s) = batchOf m s :=
  batchOf_congr (by rw [withSeq_seq, h]) rfl

/-- The batch of a mixer, its slot, and its number in range. -/
theorem batchOf_some {m : Mixer} {s : State} {slot : Nat} {r : BatchRecord} (h : batchOf m s = some (slot, r)) :
    (s.seq m).batch = some { slot := slot, id := r.id } ∧ s.batch slot = some r := by
  unfold batchOf at h
  split at h
  · cases h
  · next b hb =>
    split at h
    · cases h
    · next x hx =>
      split at h
      · next hid =>
        cases h
        exact ⟨by rw [hid, hb], hx⟩
      · cases h

theorem batchOf_eq_some {m : Mixer} {s : State} {b : BatchRef} {r : BatchRecord} (hq : (s.seq m).batch = some b)
    (hb : s.batch b.slot = some r) (hid : r.id = b.id) : batchOf m s = some (b.slot, r) := by
  simp [batchOf, hq, hb, hid]

theorem batch_inRange {s : State} {slot : Nat} {r : BatchRecord} (h : s.batch slot = some r) : 1 ≤ slot ∧ slot ≤ 32 :=
  at1_mem h

/-! ### What is read off the batch -/

theorem targetOf_eq (m : Mixer) (c : Component) (s : State) :
    targetOf m c s = ((batchOf m s).map fun x => x.2.targets.of c).getD 0 := by
  unfold targetOf
  cases batchOf m s <;> rfl

theorem classOf_eq (m : Mixer) (s : State) :
    classOf m s = (batchOf m s).bind fun x => x.2.cls.bind fun n => at1 s.store.classes n none := by
  unfold classOf
  cases batchOf m s <;> rfl

theorem castCount_eq (m : Mixer) (s : State) :
    castCount m s = ((batchOf m s).map fun x => x.2.reservation.length).getD 0 := by
  unfold castCount
  cases batchOf m s <;> rfl

theorem poured_eq (m : Mixer) (s : State) : poured m s = ((batchOf m s).map fun x => x.2.poured).getD 0 := by
  unfold poured
  cases batchOf m s <;> rfl

theorem stepped_eq (m : Mixer) (s : State) : stepped m s = ((batchOf m s).map fun x => x.2.stepped).getD false := by
  unfold stepped
  cases batchOf m s <;> rfl

theorem contents_eq (m : Mixer) (s : State) :
    contents m s = ((batchOf m s).map fun x => x.2.actuals.total - (s.seq m).fillsTotal).getD 0 := by
  unfold contents
  cases batchOf m s <;> rfl

/-- What the sequencer reads off its batch record while the batch runs, except for the actual amounts: the record and its
class, with the actuals and the dose-deviation flag left out. -/
structure SameBatch (m : Mixer) (s t : State) : Prop where
  target : ∀ c, targetOf m c t = targetOf m c s
  cls : classOf m t = classOf m s
  castCount : castCount m t = castCount m s
  poured : poured m t = poured m s
  stepped : stepped m t = stepped m s

namespace SameBatch

variable {m : Mixer} {s t u : State}

theorem refl (m : Mixer) (s : State) : SameBatch m s s := ⟨fun _ => rfl, rfl, rfl, rfl, rfl⟩

theorem trans (h : SameBatch m s t) (k : SameBatch m t u) : SameBatch m s u :=
  ⟨fun c => (k.target c).trans (h.target c), k.cls.trans h.cls, k.castCount.trans h.castCount, k.poured.trans h.poured,
    k.stepped.trans h.stepped⟩

theorem symm (h : SameBatch m s t) : SameBatch m t s :=
  ⟨fun c => (h.target c).symm, h.cls.symm, h.castCount.symm, h.poured.symm, h.stepped.symm⟩

theorem classField (h : SameBatch m s t) (f : ClassRecord → Nat) : classField m f t = Machine.classField m f s := by
  rw [Machine.classField, Machine.classField, h.cls]

/-- A batch record that is written again keeps what the sequencer reads where the write keeps it. -/
theorem ofMap {f : BatchRecord → BatchRecord} (hb : batchOf m t = (batchOf m s).map fun x => (x.1, f x.2))
    (hc : t.store.classes = s.store.classes)
    (hf : ∀ r, (f r).targets = r.targets ∧ (f r).cls = r.cls ∧ (f r).reservation = r.reservation ∧
      (f r).poured = r.poured ∧ (f r).stepped = r.stepped) : SameBatch m s t := by
  constructor
  · intro c
    rw [targetOf_eq, targetOf_eq, hb, Option.map_map]
    simp only [Function.comp_def, hf]
  · rw [classOf_eq, classOf_eq, hb, hc, Option.bind_map]
    simp only [Function.comp_def, hf]
  · rw [castCount_eq, castCount_eq, hb, Option.map_map]
    simp only [Function.comp_def, hf]
  · rw [poured_eq, poured_eq, hb, Option.map_map]
    simp only [Function.comp_def, hf]
  · rw [stepped_eq, stepped_eq, hb, Option.map_map]
    simp only [Function.comp_def, hf]

/-- The same record in the same slot. -/
theorem ofEq (hb : batchOf m t = batchOf m s) (hc : t.store.classes = s.store.classes) : SameBatch m s t :=
  ofMap (f := id) (by simp [hb]) hc fun _ => ⟨rfl, rfl, rfl, rfl, rfl⟩

theorem withSeq (f : Sequencer → Sequencer) (h : (f (s.seq m)).batch = (s.seq m).batch) :
    SameBatch m s (Machine.withSeq m f s) := ofEq (batchOf_withSeq m f s h) rfl

end SameBatch

/-! ### The drive -/

theorem setDrive_eq (m : Mixer) (d : Drive) (s : State) :
    setDrive m d s =
      { s with mixers := s.mixers.put m { s.seq m with drive := d }, outputs := (setDrive m d s).outputs } := by
  unfold setDrive
  split
  · next h => rw [← h, State.seq, put_get]
  · rfl

@[simp] theorem setDrive_seq (m : Mixer) (d : Drive) (s : State) : (setDrive m d s).seq m = { s.seq m with drive := d } := by
  rw [setDrive_eq]
  exact get_put_same _ _ _

@[simp] theorem setDrive_mixers (m : Mixer) (d : Drive) (s : State) :
    (setDrive m d s).mixers = s.mixers.put m { s.seq m with drive := d } := by rw [setDrive_eq]
@[simp] theorem setDrive_station (m : Mixer) (d : Drive) (s : State) (k : Mixer) :
    (setDrive m d s).station k = s.station k := by rw [setDrive_eq]; rfl
@[simp] theorem setDrive_store (m : Mixer) (d : Drive) (s : State) : (setDrive m d s).store = s.store := by rw [setDrive_eq]
@[simp] theorem setDrive_stations (m : Mixer) (d : Drive) (s : State) : (setDrive m d s).stations = s.stations := by
  rw [setDrive_eq]
@[simp] theorem setDrive_arbiter (m : Mixer) (d : Drive) (s : State) : (setDrive m d s).arbiter = s.arbiter := by
  rw [setDrive_eq]
@[simp] theorem setDrive_spaceList (m : Mixer) (d : Drive) (s : State) : (setDrive m d s).spaceList = s.spaceList := by
  rw [setDrive_eq]
@[simp] theorem setDrive_transit (m : Mixer) (d : Drive) (s : State) : (setDrive m d s).transit = s.transit := by
  rw [setDrive_eq]
@[simp] theorem setDrive_oscillator (m : Mixer) (d : Drive) (s : State) : (setDrive m d s).oscillator = s.oscillator := by
  rw [setDrive_eq]
@[simp] theorem setDrive_clock (m : Mixer) (d : Drive) (s : State) : (setDrive m d s).clock = s.clock := by
  rw [setDrive_eq]
@[simp] theorem setDrive_plantLink (m : Mixer) (d : Drive) (s : State) : (setDrive m d s).plantLink = s.plantLink := by
  rw [setDrive_eq]

@[simp] theorem batchOf_setDrive (m : Mixer) (d : Drive) (s : State) : batchOf m (setDrive m d s) = batchOf m s :=
  batchOf_congr (by simp) (by simp)

/-! ### The marker -/

theorem markStage_eq (m : Mixer) (st : Stage) (s : State) :
    markStage m st s =
      { s with
        store := { s.store with
          markers := (markStage m st s).store.markers, damaged := (markStage m st s).store.damaged }
        journal := (markStage m st s).journal } := by
  unfold markStage
  split <;> rfl

@[simp] theorem markStage_seq (m : Mixer) (st : Stage) (s : State) (k : Mixer) : (markStage m st s).seq k = s.seq k := by
  rw [markStage_eq]; rfl
@[simp] theorem markStage_station (m : Mixer) (st : Stage) (s : State) (k : Mixer) :
    (markStage m st s).station k = s.station k := by rw [markStage_eq]; rfl
@[simp] theorem markStage_stations (m : Mixer) (st : Stage) (s : State) : (markStage m st s).stations = s.stations := by
  rw [markStage_eq]
@[simp] theorem markStage_batches (m : Mixer) (st : Stage) (s : State) :
    (markStage m st s).store.batches = s.store.batches := by rw [markStage_eq]
@[simp] theorem markStage_entries (m : Mixer) (st : Stage) (s : State) :
    (markStage m st s).store.entries = s.store.entries := by rw [markStage_eq]
@[simp] theorem markStage_classes (m : Mixer) (st : Stage) (s : State) :
    (markStage m st s).store.classes = s.store.classes := by rw [markStage_eq]
@[simp] theorem markStage_arbiter (m : Mixer) (st : Stage) (s : State) : (markStage m st s).arbiter = s.arbiter := by
  rw [markStage_eq]
@[simp] theorem markStage_spaceList (m : Mixer) (st : Stage) (s : State) : (markStage m st s).spaceList = s.spaceList := by
  rw [markStage_eq]
@[simp] theorem markStage_transit (m : Mixer) (st : Stage) (s : State) : (markStage m st s).transit = s.transit := by
  rw [markStage_eq]
@[simp] theorem markStage_oscillator (m : Mixer) (st : Stage) (s : State) : (markStage m st s).oscillator = s.oscillator := by
  rw [markStage_eq]
@[simp] theorem markStage_clock (m : Mixer) (st : Stage) (s : State) : (markStage m st s).clock = s.clock := by
  rw [markStage_eq]

@[simp] theorem batchOf_markStage (m : Mixer) (st : Stage) (s : State) : batchOf m (markStage m st s) = batchOf m s :=
  batchOf_congr (by simp) (by simp)

/-- R39: a mixer that has a batch is marked with the stage. -/
theorem markStage_marker {m : Mixer} {s : State} {b : BatchRef} (st : Stage) (h : (s.seq m).batch = some b) :
    (markStage m st s).store.markers.get m = some { slot := b.slot, batch := b.id, stage := st } := by
  unfold markStage
  rw [h]
  exact get_put_same _ _ _

/-! ### The pot-life timer -/

/-- R50: the pot-life timer once it has been started. -/
def startedPotLife (m : Mixer) (s : State) : PotLife :=
  if (s.seq m).potLife = .notStarted then .running (s.oscillator + classField m (·.potLife) s * 60) else (s.seq m).potLife

theorem startPotLife_eq (m : Mixer) (s : State) :
    startPotLife m s = withSeq m (fun q => { q with potLife := startedPotLife m s }) s := by
  unfold startPotLife
  split
  · next h => rw [startedPotLife, if_pos h]; rfl
  · next h =>
    have kept : startedPotLife m s = (s.seq m).potLife := if_neg h
    exact (withSeq_unchanged (by rw [kept])).symm

/-! ### Batch records -/

theorem updateBatch_some {slot : Nat} {r : BatchRecord} {s : State} (f : BatchRecord → BatchRecord) (h : s.batch slot = some r) :
    updateBatch slot f s = writeBatch slot (some (f r)) s := by
  unfold updateBatch
  rw [h]

theorem writeBatch_batch {slot : Nat} (r : Option BatchRecord) (s : State) (h : 1 ≤ slot ∧ slot ≤ 32) :
    (writeBatch slot r s).batch slot = r := at1_put1_same _ _ _ _ h

theorem writeBatch_batch_other {slot j : Nat} (r : Option BatchRecord) (s : State) (h : j ≠ slot) :
    (writeBatch slot r s).batch j = s.batch j := at1_put1_other _ _ _ _ _ h

/-- A mixer's own batch record is written again in its slot. -/
theorem updateOwnBatch_some {m : Mixer} {slot : Nat} {r : BatchRecord} {s : State} (f : BatchRecord → BatchRecord)
    (h : batchOf m s = some (slot, r)) : updateOwnBatch m f s = writeBatch slot (some (f r)) s := by
  unfold updateOwnBatch
  rw [h]
  exact updateBatch_some f (batchOf_some h).2

theorem updateOwnBatch_none {m : Mixer} {s : State} (f : BatchRecord → BatchRecord) (h : batchOf m s = none) :
    updateOwnBatch m f s = s := by
  unfold updateOwnBatch
  rw [h]

theorem updateOwnBatch_eq (m : Mixer) (f : BatchRecord → BatchRecord) (s : State) :
    updateOwnBatch m f s =
      { s with
        store := { s.store with
          batches := (updateOwnBatch m f s).store.batches, damaged := (updateOwnBatch m f s).store.damaged }
        journal := (updateOwnBatch m f s).journal } := by
  cases h : batchOf m s with
  | none => rw [updateOwnBatch_none f h]
  | some x => rw [updateOwnBatch_some f h]; rfl

/-- A write that keeps the batch ID leaves the mixer its batch, rewritten. -/
theorem batchOf_updateOwnBatch (m : Mixer) (f : BatchRecord → BatchRecord) (s : State) (hf : ∀ r, (f r).id = r.id) :
    batchOf m (updateOwnBatch m f s) = (batchOf m s).map fun x => (x.1, f x.2) := by
  cases h : batchOf m s with
  | none => rw [updateOwnBatch_none f h, h]; rfl
  | some x =>
    obtain ⟨slot, r⟩ := x
    obtain ⟨hq, hb⟩ := batchOf_some h
    rw [updateOwnBatch_some f h]
    exact batchOf_eq_some (b := { slot := slot, id := r.id }) hq (writeBatch_batch _ s (batch_inRange hb)) (hf r)

@[simp] theorem writeActual_seq (m : Mixer) (c : Component) (v : Nat) (s : State) (k : Mixer) :
    (writeActual m c v s).seq k = s.seq k := by rw [writeActual, updateOwnBatch_eq]; rfl
@[simp] theorem writeActual_station (m : Mixer) (c : Component) (v : Nat) (s : State) (k : Mixer) :
    (writeActual m c v s).station k = s.station k := by rw [writeActual, updateOwnBatch_eq]; rfl
@[simp] theorem writeActual_stations (m : Mixer) (c : Component) (v : Nat) (s : State) :
    (writeActual m c v s).stations = s.stations := by rw [writeActual, updateOwnBatch_eq]
@[simp] theorem writeActual_entries (m : Mixer) (c : Component) (v : Nat) (s : State) :
    (writeActual m c v s).store.entries = s.store.entries := by rw [writeActual, updateOwnBatch_eq]
@[simp] theorem writeActual_classes (m : Mixer) (c : Component) (v : Nat) (s : State) :
    (writeActual m c v s).store.classes = s.store.classes := by rw [writeActual, updateOwnBatch_eq]
@[simp] theorem writeActual_markers (m : Mixer) (c : Component) (v : Nat) (s : State) :
    (writeActual m c v s).store.markers = s.store.markers := by rw [writeActual, updateOwnBatch_eq]
@[simp] theorem writeActual_arbiter (m : Mixer) (c : Component) (v : Nat) (s : State) :
    (writeActual m c v s).arbiter = s.arbiter := by rw [writeActual, updateOwnBatch_eq]
@[simp] theorem writeActual_oscillator (m : Mixer) (c : Component) (v : Nat) (s : State) :
    (writeActual m c v s).oscillator = s.oscillator := by rw [writeActual, updateOwnBatch_eq]
@[simp] theorem writeActual_clock (m : Mixer) (c : Component) (v : Nat) (s : State) :
    (writeActual m c v s).clock = s.clock := by rw [writeActual, updateOwnBatch_eq]

theorem batchOf_writeActual (m : Mixer) (c : Component) (v : Nat) (s : State) :
    batchOf m (writeActual m c v s) = (batchOf m s).map fun x => (x.1, { x.2 with actuals := x.2.actuals.put c v }) :=
  batchOf_updateOwnBatch m _ s fun _ => rfl

theorem SameBatch.writeActual (m : Mixer) (c : Component) (v : Nat) (s : State) : SameBatch m s (writeActual m c v s) :=
  .ofMap (f := fun r => { r with actuals := r.actuals.put c v }) (batchOf_writeActual m c v s) (writeActual_classes m c v s)
    fun _ => ⟨rfl, rfl, rfl, rfl, rfl⟩

/-- R28: the actual stands in the record of the mixer's batch. -/
theorem writeActual_batch {m : Mixer} {slot : Nat} {r : BatchRecord} {s : State} (c : Component) (v : Nat)
    (h : batchOf m s = some (slot, r)) :
    (writeActual m c v s).batch slot = some { r with actuals := r.actuals.put c v } := by
  rw [writeActual, updateOwnBatch_some _ h]
  exact writeBatch_batch _ s (batch_inRange (batchOf_some h).2)

theorem writeActual_batch_other {m : Mixer} {slot j : Nat} {r : BatchRecord} {s : State} (c : Component) (v : Nat)
    (h : batchOf m s = some (slot, r)) (hj : j ≠ slot) : (writeActual m c v s).batch j = s.batch j := by
  rw [writeActual, updateOwnBatch_some _ h]
  exact writeBatch_batch_other _ s hj

end Sys2Proof.Proofs
end

section
/-! PROOF. What a command and a request make of the state: an operation acts alike on a state and on that state as the command finds it, but for what has been sent and written. -/

namespace Sys2Proof.Proofs

open Sys2Proof.Machine

/-! ### But for what was sent and written -/

/-- The two states agree but for the outputs, the journal and the clearing of the battery-fail indication. -/
def SameButSent (s t : State) : Prop := ∃ o j b, t = { s with outputs := o, journal := j, batteryCleared := b }

namespace SameButSent

variable {s t : State}

theorem refl (s : State) : SameButSent s s := ⟨_, _, _, rfl⟩

/-- A state as a command finds it. -/
theorem ofBegin (s : State) : SameButSent s (begin s) := ⟨_, _, _, rfl⟩

theorem withSeq (m : Mixer) (f : Sequencer → Sequencer) (h : SameButSent s t) :
    SameButSent (Machine.withSeq m f s) (Machine.withSeq m f t) := by
  obtain ⟨_, _, _, rfl⟩ := h
  exact ⟨_, _, _, rfl⟩

theorem arbiter (a : Arbiter) (h : SameButSent s t) : SameButSent { s with arbiter := a } { t with arbiter := a } := by
  obtain ⟨_, _, _, rfl⟩ := h
  exact ⟨_, _, _, rfl⟩

theorem deliver (m : Mixer) (ch : Channel) (amount : Nat) (h : SameButSent s t) :
    SameButSent (Machine.deliver m ch amount s) (Machine.deliver m ch amount t) := by
  obtain ⟨_, _, _, rfl⟩ := h
  exact ⟨_, _, _, rfl⟩

theorem batchOf (m : Mixer) (h : SameButSent s t) : batchOf m t = Machine.batchOf m s := by
  obtain ⟨_, _, _, rfl⟩ := h
  rfl

theorem writeActual (m : Mixer) (c : Component) (v : Nat) (h : SameButSent s t) :
    SameButSent (Machine.writeActual m c v s) (Machine.writeActual m c v t) := by
  have ht := h.batchOf m
  unfold Machine.writeActual
  cases hb : Machine.batchOf m s with
  | none => rw [updateOwnBatch_none _ hb, updateOwnBatch_none _ (ht.trans hb)]; exact h
  | some x =>
    rw [updateOwnBatch_some _ hb, updateOwnBatch_some _ (ht.trans hb)]
    obtain ⟨_, _, _, rfl⟩ := h
    exact ⟨_, _, _, rfl⟩

theorem charge (m : Mixer) (c : Component) (v : Nat) (h : SameButSent s t) :
    SameButSent (Machine.charge m c v s) (Machine.charge m c v t) := by
  have hseq : t.seq m = s.seq m := by obtain ⟨_, _, _, rfl⟩ := h; rfl
  unfold Machine.charge
  rw [hseq]
  exact (h.withSeq m _).writeActual m c _

end SameButSent

/-! ### Commands -/

/-- An event of a powered controller leaves what its operation makes of the state. -/
theorem event_completes {c : Instr} {f : State → State} {s x : State} {o : List Output} (hc : exec c s = command f s)
    (hp : s.powered = true) (hk : Kept (begin s) (f (begin s))) (hx : SameButSent x (f (begin s)))
    (ho : o <+: (f (begin s)).outputs) : Completes c s x o := by
  refine settle_completes c s x _ o (hc.trans (command_powered f s hp)) hk.batteryCleared ?_ ho
  obtain ⟨_, _, _, h⟩ := hx
  rw [h]

/-- An event whose operation does nothing. -/
theorem event_ignored {c : Instr} {f : State → State} {s : State} (hc : exec c s = command f s) (hp : s.powered = true)
    (hf : f (begin s) = begin s) : Completes c s s [] :=
  event_completes hc hp (by rw [hf]; exact .refl _) (by rw [hf]; exact .ofBegin s) List.nil_prefix

/-- An event whose operation makes the state named. -/
theorem event_makes {c : Instr} {f : State → State} {s x : State} (hc : exec c s = command f s) (hp : s.powered = true)
    (hk : Kept (begin s) (f (begin s))) (hf : f (begin s) = x) : Completes c s x [] :=
  event_completes hc hp hk (by rw [hf]; exact .refl x) List.nil_prefix

/-- A request acted on with the request in hand, whatever notices the action raises: they wait for its reply. -/
theorem request_acts {c : Instr} {tag : Nat} {r : Request} {rep : Reply} {s x : State} (hc : c.request? = some (tag, r))
    (h : linkFree s) (ha : act r (s.holding tag r) = (x, rep)) (hk : Kept (s.holding tag r) x)
    (hw : AwaitsReply (requested tag r) x) : Completes c s (x.answered tag r rep) [] := by
  obtain ⟨hhand, hreply, hsending, -⟩ := hw
  refine request_completes c tag r rep s x x [] hc h ha ?_ hsending hreply hk.batteryCleared List.nil_prefix
  rw [← hhand]

/-- The state in which a request received on a free link is acted on awaits its reply. -/
theorem holding_awaits (tag : Nat) (r : Request) {s : State} (h : linkFree s) :
    AwaitsReply (requested tag r) (s.holding tag r) := by
  obtain ⟨-, -, -, -, hreply, hsending, hheld⟩ := h
  exact ⟨rfl, hreply, hsending, hheld⟩

/-- A request that a property of a state as it is received settles: refused, with nothing changed. -/
theorem request_unchanged {c : Instr} {tag : Nat} {r : Request} {rep : Reply} {s : State} (hc : c.request? = some (tag, r))
    (h : linkFree s) (ha : act r (s.holding tag r) = (s.holding tag r, rep)) : Completes c s (s.answered tag r rep) [] :=
  request_refused c tag r rep s [] hc h ha List.nil_prefix

/-- What becomes of a request on a free link, with the reply left to be sent. -/
theorem exec_request_replied {c : Instr} {tag : Nat} {r : Request} {rep : Reply} {s x : State}
    (hc : c.request? = some (tag, r)) (h : linkFree s) (ha : act r (s.holding tag r) = (x, rep)) :
    exec c s = .next (settle (x.replied tag r rep)) := by
  obtain ⟨hp, -⟩ := id h
  rw [exec_request c tag r s hc]
  refine (command_powered _ s hp).trans ?_
  rw [offer_free _ _ h]
  exact congrArg (fun y => Host.Outcome.next (settle (formReply (requested tag r) y))) ha

/-- A request that names a mixer (R58, section 4.3). -/
theorem namingMixer_named {code : Nat} {m : Mixer} (f : Mixer → State × Reply) (s : State) (h : mixerOfCode code = some m) :
    namingMixer code f s = f m := by
  unfold namingMixer
  rw [h]

theorem namingMixer_range {code : Nat} (f : Mixer → State × Reply) (s : State) (h : mixerOfCode code = none) :
    namingMixer code f s = (s, .refused .range .empty) := by
  unfold namingMixer
  rw [h]

end Sys2Proof.Proofs
end
section
/-! PROOF. Deliveries: the completion of an ash, chelant or water delivery (R40 to R43), judged against the band of its component. -/

namespace Sys2Proof.Proofs

open Sys2Proof.Machine

/-! ### The band (R41) -/

theorem judge_below {c : Component} {target total : Nat} (h : total < lowerLimit c target) : judge c target total = .below :=
  if_pos h

theorem judge_above {c : Component} {target total : Nat} (h : upperLimit c target < total) : judge c target total = .above := by
  have hlow : ¬ total < lowerLimit c target := by
    unfold upperLimit at h
    unfold lowerLimit
    omega
  rw [judge, if_neg hlow, if_pos h]

theorem judge_within {c : Component} {target total : Nat} (hlow : lowerLimit c target ≤ total)
    (hup : total ≤ upperLimit c target) : judge c target total = .within := by
  rw [judge, if_neg (Nat.not_lt.2 hlow), if_neg (Nat.not_lt.2 hup)]

/-! ### A hold that is launched at once (R62) -/

theorem raiseHold_launches {m : Mixer} {s : State} (cause : HoldCause) (named : Option Component)
    (hs : holdable (s.seq m).state = true) (hf : inFlight m s = false) :
    raiseHold m cause named s = launchHoldAt m cause named (launchStage (s.seq m)) s := by
  rw [raiseHold, if_pos hs, if_neg (by simp [hf])]

theorem inFlight_eq_false {m : Mixer} {s : State} (hf : (s.station m).fill = none)
    (hd : ∀ d, (s.seq m).delivery = some d → d.channel ≠ .discharge) : inFlight m s = false := by
  unfold inFlight
  rw [hf]
  cases h : (s.seq m).delivery with
  | none => rfl
  | some d => simpa using hd d h

/-! ### What a charge makes of the mixer (R40, R42) -/

/-- The end of a delivery and the charge of its amount. -/
def chargedDose (m : Mixer) (c : Component) (v : Nat) (s : State) : State := charge m c v (endDelivery m s)

section charged

variable (m : Mixer) (c : Component) (v : Nat) (s : State)

@[simp] theorem chargedDose_seq :
    (chargedDose m c v s).seq m = { s.seq m with delivery := none, dosed := (s.seq m).dosed + v } := by
  simp [chargedDose, charge, endDelivery]

@[simp] theorem chargedDose_station (k : Mixer) : (chargedDose m c v s).station k = s.station k := by
  simp [chargedDose, charge, endDelivery]

theorem chargedDose_sameBatch : SameBatch m s (chargedDose m c v s) :=
  ((SameBatch.withSeq _ rfl).trans (SameBatch.withSeq _ rfl)).trans (SameBatch.writeActual m c _ _)

theorem chargedDose_frame :
    (chargedDose m c v s).store.entries = s.store.entries ∧ (chargedDose m c v s).store.markers = s.store.markers ∧
    (chargedDose m c v s).arbiter = s.arbiter := by
  simp [chargedDose, charge, endDelivery]

theorem chargedDose_outputs : (chargedDose m c v s).outputs = s.outputs := by
  rw [chargedDose, charge, writeActual, updateOwnBatch_eq]
  rfl

theorem chargedDose_hallKept : HallKept s (chargedDose m c v s) :=
  charge_stable (hallKept_stable s) m c v (endDelivery_stable (hallKept_stable s) m (hallKept_refl s))

variable {m s}

/-- Nothing but the batch record of the mixer is written. -/
theorem chargedDose_batchOf {slot : Nat} {r : BatchRecord} (h : batchOf m s = some (slot, r)) :
    (chargedDose m c v s).batch slot = some { r with actuals := r.actuals.put c ((s.seq m).dosed + v) } ∧
    ∀ j, j ≠ slot → (chargedDose m c v s).batch j = s.batch j := by
  have hb : batchOf m (withSeq m (fun q => { q with dosed := (s.seq m).dosed + v }) (endDelivery m s)) = some (slot, r) :=
    ((batchOf_withSeq m _ _ rfl).trans (batchOf_withSeq m _ s rfl)).trans h
  have he : chargedDose m c v s =
      writeActual m c ((s.seq m).dosed + v) (withSeq m (fun q => { q with dosed := (s.seq m).dosed + v }) (endDelivery m s)) := by
    simp [chargedDose, charge, endDelivery]
  rw [he]
  exact ⟨writeActual_batch c _ hb, fun j hj => writeActual_batch_other c _ hb hj⟩

end charged

/-! ### The judgment (R42) -/

section judged

variable {m : Mixer} {ch : Channel} {c : Component} {s : State}

theorem doseCompletes_judged {d : DoseChannel} {amount : Nat} (hd : doseChannel d = (ch, c)) (hg : delivering m ch s = true) :
    doseCompletes m d amount s = judgeDose m ch c (chargedDose m c amount s) := by
  unfold doseCompletes
  rw [hd]
  exact if_pos hg

theorem judgeDose_within (h : judge c (targetOf m c s) (s.seq m).dosed = .within) : judgeDose m ch c s = accept m c s := by
  simp only [judgeDose, h]

theorem judgeDose_above (h : judge c (targetOf m c s) (s.seq m).dosed = .above) :
    judgeDose m ch c s = raiseHold m .overdose (some c) s := by
  simp only [judgeDose, h]

theorem judgeDose_underdose (h : judge c (targetOf m c s) (s.seq m).dosed = .below) (ht : (s.seq m).topUp = true) :
    judgeDose m ch c s = raiseHold m .underdose (some c) s := by
  simp only [judgeDose, h]
  exact if_pos ht

theorem judgeDose_topUp (h : judge c (targetOf m c s) (s.seq m).dosed = .below) (ht : (s.seq m).topUp = false) :
    judgeDose m ch c s =
      deliver m ch (targetOf m c s - (s.seq m).dosed) (withSeq m (fun q => { q with topUp := true }) s) := by
  simp only [judgeDose, h]
  exact if_neg (by simp [ht])

end judged

/-! ### The completion of a delivery (R40) -/

/-- The judgment of a charged dose is that of the total with the target as it was. -/
theorem chargedDose_judge (m : Mixer) (c : Component) (amount : Nat) (s : State) :
    judge c (targetOf m c (chargedDose m c amount s)) ((chargedDose m c amount s).seq m).dosed =
      judge c (targetOf m c s) ((s.seq m).dosed + amount) := by
  rw [chargedDose_seq, (chargedDose_sameBatch m c amount s).target c]

section completion

variable {m : Mixer} {d : DoseChannel} {ch : Channel} {c : Component} {amount : Nat} {s : State}
  (hp : s.powered = true) (hd : doseChannel d = (ch, c))
include hp hd

theorem dose_discarded (hn : delivering m ch s = false) : Completes (.deliveryCompletion m d amount) s s [] := by
  refine event_ignored (f := doseCompletes m d amount) rfl hp ?_
  unfold doseCompletes
  rw [hd]
  exact if_neg (by rw [show delivering m ch (begin s) = false from hn]; simp)

variable (hg : delivering m ch s = true)
include hg

/-- A hold launched on the judgment of a dose: nothing is in flight once its delivery has ended. -/
theorem dose_held {cause : HoldCause} (hj : judgeDose m ch c (chargedDose m c amount (begin s)) =
      raiseHold m cause (some c) (chargedDose m c amount (begin s)))
    (hs : holdable (s.seq m).state = true) (hf : (s.station m).fill = none) :
    Completes (.deliveryCompletion m d amount) s
      (launchHoldAt m cause (some c) (launchStage (s.seq m)) (chargedDose m c amount (begin s))) [] := by
  have hq := chargedDose_seq m c amount (begin s)
  refine event_makes (f := doseCompletes m d amount) rfl hp (doseCompletes_kept m d amount (.refl _)) ?_
  rw [doseCompletes_judged (s := begin s) hd hg, hj, raiseHold_launches cause (some c) (by rw [hq]; exact hs)]
  · rw [hq]
    rfl
  · exact inFlight_eq_false (by rw [chargedDose_station]; exact hf) (by rw [hq]; simp)

theorem dose_accepted (hj : judge c (targetOf m c s) ((s.seq m).dosed + amount) = .within) :
    Completes (.deliveryCompletion m d amount) s (accept m c (chargedDose m c amount (begin s))) [] := by
  refine event_makes (f := doseCompletes m d amount) rfl hp (doseCompletes_kept m d amount (.refl _)) ?_
  rw [doseCompletes_judged (s := begin s) hd hg, judgeDose_within ((chargedDose_judge m c amount (begin s)).trans hj)]

theorem dose_toppedUp (hj : judge c (targetOf m c s) ((s.seq m).dosed + amount) = .below) (ht : (s.seq m).topUp = false) :
    Completes (.deliveryCompletion m d amount) s
      (deliver m ch (targetOf m c s - ((s.seq m).dosed + amount))
        (withSeq m (fun q => { q with topUp := true }) (chargedDose m c amount s)))
      [.deliver m ch (targetOf m c s - ((s.seq m).dosed + amount))] := by
  have hq := chargedDose_seq m c amount (begin s)
  have he : doseCompletes m d amount (begin s) =
      deliver m ch (targetOf m c s - ((s.seq m).dosed + amount))
        (withSeq m (fun q => { q with topUp := true }) (chargedDose m c amount (begin s))) := by
    rw [doseCompletes_judged (s := begin s) hd hg, judgeDose_topUp ((chargedDose_judge m c amount (begin s)).trans hj) (by rw [hq]; exact ht), hq,
      (chargedDose_sameBatch m c amount (begin s)).target c]
    rfl
  refine event_completes (f := doseCompletes m d amount) rfl hp (doseCompletes_kept m d amount (.refl _)) ?_ ?_
  · rw [he]
    exact (((((SameButSent.ofBegin s).withSeq m _).charge m c amount).withSeq m _).deliver m ch _)
  · rw [he, deliver, withSeq_outputs, emit_outputs, withSeq_outputs, chargedDose_outputs]
    exact List.prefix_rfl

end completion

/-- R43, R57: an accepted ash. -/
theorem accept_ash (m : Mixer) (s : State) :
    accept m .ash s =
      if stepped m s then stepWait m .ash (.stage .cement) (withSeq m (fun q => { q with component := none }) s)
      else enterCement m (withSeq m (fun q => { q with component := none }) s) := by
  show afterAsh m (withSeq m (fun q => { q with component := none }) s) = _
  rw [afterAsh, (SameBatch.withSeq (m := m) (s := s) (fun q => { q with component := none }) rfl).stepped]

/-- Settles O27: the completion is the charge of the amount and the judgment of the total, one lemma for each verdict. -/
theorem deliveriesAreJudged : Obligations.DeliveriesAreJudged := by
  intro m d amount slot r s hp ch c tolerance target total lower upper dosed st
  have hd : doseChannel d = (ch, c) := by cases d <;> rfl
  have hlower : lowerLimit c target = lower := by cases d <;> rfl
  have hupper : upperLimit c target = upper := by cases d <;> rfl
  refine ⟨dose_discarded hp hd, fun hg => ⟨?topUp, ?underdose, ?overdose, ?within⟩, ?charged, ?unstepped, ?stepped⟩
  case topUp => exact fun hlow ht => dose_toppedUp hp hd hg (judge_below (hlower ▸ hlow)) ht
  case underdose =>
    intro hlow ht hs hf
    refine dose_held hp hd hg (judgeDose_underdose ((chargedDose_judge m c amount (begin s)).trans (judge_below (hlower ▸ hlow))) ?_) hs hf
    rw [chargedDose_seq]
    exact ht
  case overdose =>
    exact fun hup hs hf =>
      dose_held hp hd hg (judgeDose_above ((chargedDose_judge m c amount (begin s)).trans (judge_above (hupper ▸ hup)))) hs hf
  case within => exact fun hlow hup => dose_accepted hp hd hg (judge_within (hlower ▸ hlow) (hupper ▸ hup))
  case charged =>
    intro hb t actuals
    obtain ⟨hentries, hmarkers, harbiter⟩ := chargedDose_frame m c amount s
    obtain ⟨hslot, hother⟩ := chargedDose_batchOf c amount hb
    refine ⟨chargedDose_seq m c amount s, ?_, hother, hentries, hmarkers, harbiter, chargedDose_hallKept m c amount s⟩
    cases d <;> exact hslot
  case unstepped => exact fun h => (accept_ash m s).trans (if_neg (by simp [h]))
  case stepped => exact fun h => (accept_ash m s).trans (if_pos h)

end Sys2Proof.Proofs
end

section
/-! PROOF. The cement scale (R44 to R48): the grant, its release, the judgment of a weighing and the completion of a discharge. -/

namespace Sys2Proof.Proofs

open Sys2Proof.Machine

/-! ### The grant (R45, R47) -/

/-- R47: the sequencer of a mixer that has been granted the scale, its weighing requested. -/
def weighing (m : Mixer) (s : State) : Sequencer :=
  let first := (s.seq m).component ≠ some .cement
  { s.seq m with
    component := some .cement, dosed := if first then 0 else (s.seq m).dosed, topUp := if first then false else (s.seq m).topUp
    delivery := some
      { channel := .weighing, amount := targetOf m .cement s - (s.seq m).cementInDrum, limit := some (s.oscillator + 180) } }

theorem weigh_eq (m : Mixer) (s : State) :
    weigh m s = { s with mixers := s.mixers.put m (weighing m s), outputs := (weigh m s).outputs } := by
  unfold weigh
  by_cases h : (s.seq m).component = some .cement
  · simp only [weighing, ne_eq, h, not_true_eq_false, if_true, if_false]
    rw [← h]
    rfl
  · have ht : targetOf m .cement (beginComponent m .cement s) = targetOf m .cement s := (SameBatch.withSeq _ rfl).target _
    have hseq : (beginComponent m .cement s).seq m = { s.seq m with component := some .cement, dosed := 0, topUp := false } :=
      withSeq_seq _ _ _
    simp only [weighing, ne_eq, h, not_false_eq_true, if_true, if_false, ht, hseq]
    simp [deliver, withSeq, emit, beginComponent, State.seq, channelLimit, ahead, Config.scaleLimit]

theorem grant_eq (m : Mixer) (waiting : List Mixer) (s : State) :
    grant m waiting s =
      { s with
        mixers := s.mixers.put m (weighing m s), arbiter := { holder := some m, waiting := waiting, onScale := 0 }
        outputs := (grant m waiting s).outputs } := by
  rw [grant, weigh_eq]
  rfl

theorem grant_seq (m : Mixer) (waiting : List Mixer) (s : State) : (grant m waiting s).seq m = weighing m s := by
  rw [grant_eq]
  exact get_put_same _ _ _

theorem grant_seq_other {m k : Mixer} (waiting : List Mixer) (s : State) (h : k ≠ m) :
    (grant m waiting s).seq k = s.seq k := by
  rw [grant_eq]
  exact get_put_other _ _ _ _ h

/-! ### The release (R45, R46) -/

/-- Where a release passes the grant on, and where it leaves the scale idle. -/
theorem releaseGrant_idle {s : State} (h : s.arbiter.waiting = []) : releaseGrant s = { s with arbiter := Arbiter.idle } := by
  unfold releaseGrant
  rw [h]

theorem releaseGrant_grants {s : State} {k : Mixer} {rest : List Mixer} (h : s.arbiter.waiting = k :: rest) :
    releaseGrant s = grant k rest s := by
  unfold releaseGrant
  rw [h]

theorem releaseGrant_eq (s : State) :
    releaseGrant s =
      { s with
        mixers := (releaseGrant s).mixers, arbiter := (releaseGrant s).arbiter, outputs := (releaseGrant s).outputs } := by
  cases h : s.arbiter.waiting with
  | nil => rw [releaseGrant_idle h]
  | cons k rest => rw [releaseGrant_grants h, grant_eq]

/-- A release changes of a sequencer only what a weighing begins with. -/
theorem releaseGrant_seq (m : Mixer) (s : State) :
    ∃ component dosed topUp delivery, (releaseGrant s).seq m =
      { s.seq m with component := component, dosed := dosed, topUp := topUp, delivery := delivery } := by
  cases h : s.arbiter.waiting with
  | nil => rw [releaseGrant_idle h]; exact ⟨_, _, _, _, rfl⟩
  | cons k rest =>
    rw [releaseGrant_grants h]
    by_cases hm : m = k
    · subst hm
      rw [grant_seq]
      exact ⟨_, _, _, _, rfl⟩
    · rw [grant_seq_other rest s hm]
      exact ⟨_, _, _, _, rfl⟩

theorem releaseGrant_sameBatch (m : Mixer) (s : State) : SameBatch m s (releaseGrant s) := by
  obtain ⟨_, _, _, _, hq⟩ := releaseGrant_seq m s
  refine .ofEq (batchOf_congr (by rw [hq]) ?_) ?_ <;> rw [releaseGrant_eq]

/-! ### The judgment of a weighing (R47) -/

/-- A weighing that has ended, with what then lies on the scale. -/
def weighed (m : Mixer) (a : Arbiter) (s : State) : State := { endDelivery m s with arbiter := a }

theorem weighed_seq (m : Mixer) (a : Arbiter) (s : State) : (weighed m a s).seq m = { s.seq m with delivery := none } :=
  get_put_same _ _ _

theorem weighed_target (m : Mixer) (a : Arbiter) (s : State) (c : Component) :
    targetOf m c (weighed m a s) = targetOf m c s := by
  have hb : batchOf m (weighed m a s) = batchOf m s := batchOf_congr (by rw [weighed_seq]) rfl
  exact (SameBatch.ofEq hb rfl).target c

section judged

variable {m : Mixer} {s : State}

theorem judgeCement_within (h : judge .cement (targetOf m .cement s) ((s.seq m).cementInDrum + s.arbiter.onScale) = .within) :
    judgeCement m s = deliver m .discharge s.arbiter.onScale s := by
  simp only [judgeCement, h]

theorem judgeCement_above (h : judge .cement (targetOf m .cement s) ((s.seq m).cementInDrum + s.arbiter.onScale) = .above) :
    judgeCement m s = raiseHold m .overdose (some .cement) s := by
  simp only [judgeCement, h]

theorem judgeCement_underdose
    (h : judge .cement (targetOf m .cement s) ((s.seq m).cementInDrum + s.arbiter.onScale) = .below)
    (ht : (s.seq m).topUp = true) : judgeCement m s = raiseHold m .underdose (some .cement) s := by
  simp only [judgeCement, h]
  exact if_pos ht

theorem judgeCement_topUp (h : judge .cement (targetOf m .cement s) ((s.seq m).cementInDrum + s.arbiter.onScale) = .below)
    (ht : (s.seq m).topUp = false) :
    judgeCement m s =
      deliver m .weighing (targetOf m .cement s - ((s.seq m).cementInDrum + s.arbiter.onScale))
        (withSeq m (fun q => { q with topUp := true }) s) := by
  simp only [judgeCement, h]
  exact if_neg (by simp [ht])

end judged

section weighing

variable {m : Mixer} {amount : Nat} {s : State} (hp : s.powered = true)
include hp

theorem weighing_ignored (hh : s.arbiter.holder = none) : Completes (.cementWeighingCompletion amount) s s [] := by
  refine event_ignored (f := weighingCompletes amount) rfl hp ?_
  unfold weighingCompletes
  rw [begin_arbiter, hh]

variable (hh : s.arbiter.holder = some m) (hg : delivering m .weighing s = true)
include hh hg

omit hp in
theorem weighingCompletes_judged :
    weighingCompletes amount (begin s) =
      judgeCement m (weighed m { s.arbiter with onScale := s.arbiter.onScale + amount } (begin s)) := by
  unfold weighingCompletes
  rw [begin_arbiter, hh]
  exact if_pos hg

/-- The weighing is judged on the cement in drum and what lies on the scale. -/
theorem weighing_makes {x : State} {o : List Output} (hx : SameButSent x
      (judgeCement m (weighed m { s.arbiter with onScale := s.arbiter.onScale + amount } (begin s))))
    (ho : o <+: (judgeCement m (weighed m { s.arbiter with onScale := s.arbiter.onScale + amount } (begin s))).outputs) :
    Completes (.cementWeighingCompletion amount) s x o := by
  have he := weighingCompletes_judged (amount := amount) hh hg
  exact event_completes (f := weighingCompletes amount) rfl hp (weighingCompletes_kept amount (.refl _)) (he ▸ hx) (he ▸ ho)

/-- A hold launched on the judgment of a weighing: nothing is in flight once it has ended. -/
theorem weighing_held {cause : HoldCause}
    (hj : judgeCement m (weighed m { s.arbiter with onScale := s.arbiter.onScale + amount } (begin s)) =
      raiseHold m cause (some .cement) (weighed m { s.arbiter with onScale := s.arbiter.onScale + amount } (begin s)))
    (hs : holdable (s.seq m).state = true) (hf : (s.station m).fill = none) :
    Completes (.cementWeighingCompletion amount) s
      (launchHoldAt m cause (some .cement) (launchStage (s.seq m))
        (weighed m { s.arbiter with onScale := s.arbiter.onScale + amount } (begin s))) [] := by
  have hq := weighed_seq m { s.arbiter with onScale := s.arbiter.onScale + amount } (begin s)
  refine weighing_makes hp hh hg ?_ List.nil_prefix
  rw [hj, raiseHold_launches cause (some .cement) (by rw [hq]; exact hs)]
  · rw [hq]
    exact .refl _
  · exact inFlight_eq_false hf (by rw [hq]; simp)

end weighing

/-! ### The completion of a discharge (R48) -/

/-- The end of a discharge and the charge of its amount. -/
def chargedCement (m : Mixer) (v : Nat) (s : State) : State := chargeCement m v (endDelivery m s)

section charged

variable (m : Mixer) (v : Nat) (s : State)

theorem chargedCement_eq :
    chargedCement m v s =
      writeActual m .cement ((s.seq m).cementInDrum + v)
        (withSeq m (fun q =>
          { q with cementInDrum := (s.seq m).cementInDrum + v, dosed := (s.seq m).cementInDrum + v }) (endDelivery m s)) := by
  simp [chargedCement, chargeCement, endDelivery]

theorem chargedCement_seq :
    (chargedCement m v s).seq m =
      { s.seq m with
        delivery := none, cementInDrum := (s.seq m).cementInDrum + v, dosed := (s.seq m).cementInDrum + v } := by
  simp [chargedCement_eq, endDelivery]

theorem chargedCement_sameBatch : SameBatch m s (chargedCement m v s) := by
  rw [chargedCement_eq]
  exact ((SameBatch.withSeq _ rfl).trans (SameBatch.withSeq _ rfl)).trans (SameBatch.writeActual m .cement _ _)

theorem chargedCement_frame :
    (chargedCement m v s).store.entries = s.store.entries ∧ (chargedCement m v s).store.markers = s.store.markers ∧
    (chargedCement m v s).arbiter = s.arbiter := by
  simp [chargedCement_eq, endDelivery]

theorem chargedCement_hallKept : HallKept s (chargedCement m v s) :=
  chargeCement_stable (hallKept_stable s) m v (endDelivery_stable (hallKept_stable s) m (hallKept_refl s))

variable {m s}

theorem chargedCement_batch {slot : Nat} {r : BatchRecord} (h : batchOf m s = some (slot, r)) :
    (chargedCement m v s).batch slot =
      some { r with actuals := { r.actuals with cement := some ((s.seq m).cementInDrum + v) } } ∧
    ∀ j, j ≠ slot → (chargedCement m v s).batch j = s.batch j := by
  rw [chargedCement_eq]
  have hb := ((batchOf_withSeq m
    (fun q => { q with cementInDrum := (s.seq m).cementInDrum + v, dosed := (s.seq m).cementInDrum + v })
    (endDelivery m s) rfl).trans (batchOf_withSeq m _ s rfl)).trans h
  exact ⟨writeActual_batch .cement _ hb, fun j hj => writeActual_batch_other .cement _ hb hj⟩

end charged

/-- R48: the mixer once its discharge has completed and the grant has been handed on. -/
def scaleLeft (m : Mixer) (amount : Nat) (s : State) : State :=
  releaseGrant (withSeq m (fun q => { q with component := none }) (chargedCement m amount s))

/-- R50, Table 3.4: the pot-life timer where no liquid follows. -/
def timedAfterCement (m : Mixer) (s t : State) : State :=
  if targetOf m .chelant s = 0 ∧ targetOf m .water s = 0 then startPotLife m t else t

section discharged

variable (m : Mixer) (amount : Nat) (s : State)

theorem scaleLeft_sameBatch : SameBatch m s (scaleLeft m amount s) :=
  ((chargedCement_sameBatch m amount s).trans (SameBatch.withSeq _ rfl)).trans (releaseGrant_sameBatch m _)

theorem scaleLeft_pendingHold : ((scaleLeft m amount s).seq m).pendingHold = (s.seq m).pendingHold := by
  obtain ⟨_, _, _, _, hq⟩ := releaseGrant_seq m (withSeq m (fun q => { q with component := none }) (chargedCement m amount s))
  rw [scaleLeft, hq, withSeq_seq, chargedCement_seq]

theorem startPotLife_sameBatch : SameBatch m s (startPotLife m s) := by
  rw [startPotLife_eq]
  exact .withSeq _ rfl

theorem timedAfterCement_sameBatch (t : State) : SameBatch m t (timedAfterCement m s t) := by
  unfold timedAfterCement
  split
  · exact startPotLife_sameBatch m t
  · exact .refl m t

theorem timedAfterCement_pendingHold (t : State) : ((timedAfterCement m s t).seq m).pendingHold = (t.seq m).pendingHold := by
  unfold timedAfterCement
  split
  · rw [startPotLife_eq, withSeq_seq]
  · rfl

variable {m s}

theorem cementCompletes_delivering (hg : delivering m .discharge s = true) :
    cementCompletes m amount s =
      match (s.seq m).pendingHold with
      | some p => launchHoldAt m p.cause p.component .liquids (timedAfterCement m s (scaleLeft m amount s))
      | none => afterCement m (timedAfterCement m s (scaleLeft m amount s)) := by
  have ht := (scaleLeft_sameBatch m amount s).target
  have htimed : timedAfterCement m (scaleLeft m amount s) (scaleLeft m amount s) =
      timedAfterCement m s (scaleLeft m amount s) := by rw [timedAfterCement, ht, ht]; rfl
  rw [← scaleLeft_pendingHold m amount s, ← timedAfterCement_pendingHold m s (scaleLeft m amount s), ← htimed]
  exact if_pos hg

variable {amount} (hp : s.powered = true)
include hp

theorem discharge_makes {x : State} (hx : cementCompletes m amount (begin s) = x) :
    Completes (.cementDischargeCompletion m amount) s x [] :=
  event_makes (f := cementCompletes m amount) rfl hp (cementCompletes_kept m amount (.refl _)) hx

theorem discharge_ignored (hg : delivering m .discharge s = false) :
    Completes (.cementDischargeCompletion m amount) s s [] :=
  event_ignored (f := cementCompletes m amount) rfl hp (if_neg (by rw [show delivering m .discharge (begin s) = false from hg]; simp))

end discharged

/-- Settles O28: the judgment of a weighing by its verdict, and a discharge by its charge, its release and what follows. -/
theorem cementIsWeighedAndDischarged : Obligations.CementIsWeighedAndDischarged := by
  intro amount slot m k rest p r s hp target onScale there weighedAs st lower upper
  have hq := weighed_seq m { s.arbiter with onScale := onScale } (begin s)
  have htarget := weighed_target m { s.arbiter with onScale := onScale } (begin s) .cement
  have hjudged : judge .cement (targetOf m .cement (weighed m { s.arbiter with onScale := onScale } (begin s)))
      (((weighed m { s.arbiter with onScale := onScale } (begin s)).seq m).cementInDrum + onScale) =
      judge .cement target there := by rw [htarget, hq]; rfl
  have hsent : SameButSent (weighedAs s) (weighed m { s.arbiter with onScale := onScale } (begin s)) :=
    ((SameButSent.ofBegin s).withSeq m _).arbiter _
  refine ⟨weighing_ignored hp, fun hh hg => ⟨?within, ?topUp, ?underdose, ?overdose⟩, ?discharge, discharge_ignored hp,
    ?charged, releaseGrant_idle, ?granted⟩
  case within =>
    intro hlow hup
    have hj := judgeCement_within (hjudged.trans (judge_within hlow hup))
    refine weighing_makes hp hh hg ?_ ?_
    · rw [hj]
      exact hsent.deliver m .discharge onScale
    · rw [hj]
      exact List.prefix_rfl
  case topUp =>
    intro hlow ht
    have hj := judgeCement_topUp (hjudged.trans (judge_below hlow)) (by rw [hq]; exact ht)
    rw [htarget, hq] at hj
    refine weighing_makes hp hh hg ?_ ?_
    · rw [hj]
      exact (hsent.withSeq m _).deliver m .weighing _
    · rw [hj]
      exact List.prefix_rfl
  case underdose =>
    intro hlow ht hs hf
    exact weighing_held hp hh hg (judgeCement_underdose (hjudged.trans (judge_below hlow)) (by rw [hq]; exact ht)) hs hf
  case overdose =>
    intro hup hs hf
    exact weighing_held hp hh hg (judgeCement_above (hjudged.trans (judge_above hup))) hs hf
  case discharge =>
    intro poured timed hg
    have hmade := cementCompletes_delivering amount (s := begin s) hg
    have hstepped : stepped m timed = stepped m s :=
      ((scaleLeft_sameBatch m amount (begin s)).trans (timedAfterCement_sameBatch m (begin s) _)).stepped
    refine ⟨fun hpend => ?_, fun hpend hst => ?_, fun hpend hst => ?_⟩
    all_goals
      refine discharge_makes hp (hmade.trans ?_)
      rw [begin_seq, hpend]
    · rfl
    · exact if_pos (hstepped.trans hst)
    · exact if_neg (Bool.eq_false_iff.1 (hstepped.trans hst))
  case charged =>
    intro hb t drum
    obtain ⟨hentries, hmarkers, harbiter⟩ := chargedCement_frame m amount s
    obtain ⟨hslot, hother⟩ := chargedCement_batch amount hb
    exact ⟨chargedCement_seq m amount s, hslot, hother, hentries, hmarkers, harbiter, chargedCement_hallKept m amount s⟩
  case granted =>
    intro hw
    rw [releaseGrant_grants hw, grant_seq]
    exact ⟨by rw [grant_eq], rfl⟩

end Sys2Proof.Proofs
end

section
/-! PROOF. The entries into the stages (R45, R49, R50, R52, R55, R57): what each makes of the mixer, its station and its batch. -/

namespace Sys2Proof.Proofs

open Sys2Proof.Machine

/-! ### A stage taken and marked (R36, R39) -/

/-- The mixer in a stage, with its marker rewritten. -/
def inStage (m : Mixer) (state : MixerState) (st : Stage) (s : State) : State := markStage m st (takeState m state (some st) s)

section inStage

variable (m : Mixer) (state : MixerState) (st : Stage) (s : State)

@[simp] theorem inStage_seq :
    (inStage m state st s).seq m = { s.seq m with state := state, stage := some st, saved := none } := by
  simp [inStage, takeState]

@[simp] theorem inStage_station (k : Mixer) : (inStage m state st s).station k = s.station k := by simp [inStage, takeState]
@[simp] theorem inStage_stations : (inStage m state st s).stations = s.stations := by simp [inStage, takeState]
@[simp] theorem inStage_batches : (inStage m state st s).store.batches = s.store.batches := by simp [inStage, takeState]
@[simp] theorem inStage_entries : (inStage m state st s).store.entries = s.store.entries := by simp [inStage, takeState]
@[simp] theorem inStage_classes : (inStage m state st s).store.classes = s.store.classes := by simp [inStage, takeState]
@[simp] theorem inStage_arbiter : (inStage m state st s).arbiter = s.arbiter := by simp [inStage, takeState]
@[simp] theorem inStage_spaceList : (inStage m state st s).spaceList = s.spaceList := by simp [inStage, takeState]
@[simp] theorem inStage_transit : (inStage m state st s).transit = s.transit := by simp [inStage, takeState]
@[simp] theorem inStage_oscillator : (inStage m state st s).oscillator = s.oscillator := by simp [inStage, takeState]
@[simp] theorem inStage_clock : (inStage m state st s).clock = s.clock := by simp [inStage, takeState]
@[simp] theorem batchOf_inStage : batchOf m (inStage m state st s) = batchOf m s := batchOf_congr (by simp) (by simp)

theorem inStage_sameBatch : SameBatch m s (inStage m state st s) :=
  .ofEq (batchOf_inStage m state st s) (inStage_classes m state st s)

variable {m s}

theorem inStage_marker {b : BatchRef} (h : (s.seq m).batch = some b) :
    (inStage m state st s).marker m = some { slot := b.slot, batch := b.id, stage := st } :=
  markStage_marker st (by simpa [takeState] using h)

end inStage

/-! ### A component begun and its delivery (R37, R40) -/

@[simp] theorem beginComponent_seq (m : Mixer) (c : Component) (s : State) :
    (beginComponent m c s).seq m = { s.seq m with component := some c, dosed := 0, topUp := false } := withSeq_seq m _ s

@[simp] theorem deliver_seq (m : Mixer) (ch : Channel) (amount : Nat) (s : State) :
    (deliver m ch amount s).seq m =
      { s.seq m with
        delivery := some { channel := ch, amount := amount, limit := (channelLimit ch).map (s.oscillator + ·) } } :=
  withSeq_seq m _ _

@[simp] theorem startPotLife_seq (m : Mixer) (s : State) :
    (startPotLife m s).seq m = { s.seq m with potLife := startedPotLife m s } := by
  rw [startPotLife_eq, withSeq_seq]

@[simp] theorem startPotLife_oscillator (m : Mixer) (s : State) : (startPotLife m s).oscillator = s.oscillator := by
  rw [startPotLife_eq, withSeq_oscillator]

theorem startedPotLife_congr {m : Mixer} {s t : State} (hb : SameBatch m s t) (hq : (t.seq m).potLife = (s.seq m).potLife)
    (ho : t.oscillator = s.oscillator) : startedPotLife m t = startedPotLife m s := by
  unfold startedPotLife
  rw [hq, ho, hb.classField]

/-! ### STEP_WAIT (R57) -/

@[simp] theorem stepWait_seq (m : Mixer) (st : Stage) (saved : Saved) (s : State) :
    (stepWait m st saved s).seq m =
      { s.seq m with state := .stepWait, stage := none, component := none, saved := some saved, drive := .agitate } := by
  simp [stepWait]

@[simp] theorem stepWait_store (m : Mixer) (st : Stage) (saved : Saved) (s : State) :
    (stepWait m st saved s).store = s.store := by simp [stepWait]

/-! ### MIX (R52) -/

theorem enterMix_eq (m : Mixer) (s : State) :
    enterMix m s =
      withSeq m (fun q => { q with component := none, mixTimer := some (s.oscillator + classField m (·.mixTime) s) })
        (setDrive m .mix (inStage m .mixing .mix s)) := by
  have hc : classField m (·.mixTime) (setDrive m .mix (inStage m .mixing .mix s)) = classField m (·.mixTime) s :=
    (SameBatch.ofEq (by simp) (by simp)).classField _
  rw [← hc]
  rfl

@[simp] theorem enterMix_seq (m : Mixer) (s : State) :
    (enterMix m s).seq m =
      { s.seq m with
        state := .mixing, stage := some .mix, saved := none, drive := .mix, component := none
        mixTimer := some (s.oscillator + classField m (·.mixTime) s) } := by
  simp [enterMix_eq]

@[simp] theorem enterMix_batches (m : Mixer) (s : State) : (enterMix m s).store.batches = s.store.batches := by
  simp [enterMix_eq]

theorem enterMix_marker {m : Mixer} {s : State} {b : BatchRef} (h : (s.seq m).batch = some b) :
    (enterMix m s).marker m = some { slot := b.slot, batch := b.id, stage := .mix } := by
  rw [enterMix_eq, ← inStage_marker .mixing .mix h]
  simp [State.marker]

/-! ### CEMENT (R45) -/

theorem requestScale_free {m : Mixer} {s : State} (h : s.arbiter.holder = none) :
    requestScale m s = grant m s.arbiter.waiting s := by
  unfold requestScale
  rw [h]

theorem enterCement_free {m : Mixer} {s : State} (h : s.arbiter.holder = none) :
    enterCement m s = grant m s.arbiter.waiting (inStage m .charging .cement s) := by
  have hi : (inStage m .charging .cement s).arbiter = s.arbiter := inStage_arbiter m .charging .cement s
  rw [← hi]
  exact requestScale_free (s := inStage m .charging .cement s) (by rw [hi]; exact h)

/-! ### LIQUIDS (R49, R50) -/

section liquids

variable {m : Mixer} {s : State}

theorem afterLiquids_eq (m : Mixer) (s : State) :
    afterLiquids m s =
      if stepped m s then stepWait m .liquids (.stage .mix) (withSeq m (fun q => { q with component := none }) s)
      else enterMix m (withSeq m (fun q => { q with component := none }) s) := by
  rw [afterLiquids, (SameBatch.withSeq (m := m) (s := s) (fun q => { q with component := none }) rfl).stepped]

theorem afterLiquids_stepped (h : stepped m s = true) :
    (afterLiquids m s).seq m =
      { s.seq m with
        state := .stepWait, stage := none, component := none, saved := some (.stage .mix), drive := .agitate } := by
  rw [afterLiquids_eq, if_pos h, stepWait_seq, withSeq_seq]

theorem afterLiquids_unstepped (h : stepped m s = false) :
    (afterLiquids m s).seq m =
      { s.seq m with
        state := .mixing, stage := some .mix, saved := none, drive := .mix, component := none
        mixTimer := some (s.oscillator + classField m (·.mixTime) s) } := by
  rw [afterLiquids_eq, if_neg (Bool.eq_false_iff.1 h), enterMix_seq, withSeq_seq, withSeq_oscillator,
    (SameBatch.withSeq _ rfl).classField]

theorem afterLiquids_potLife (m : Mixer) (s : State) : ((afterLiquids m s).seq m).potLife = (s.seq m).potLife := by
  rw [afterLiquids_eq]
  split
  · rw [stepWait_seq, withSeq_seq]
  · rw [enterMix_seq, withSeq_seq]

theorem afterLiquids_batches (m : Mixer) (s : State) : (afterLiquids m s).store.batches = s.store.batches := by
  rw [afterLiquids_eq]
  split
  · rw [stepWait_store, withSeq_store]
  · rw [enterMix_batches, withSeq_store]

theorem doseWater_zero (h : targetOf m .water s = 0) : doseWater m s = afterLiquids m (writeActual m .water 0 s) := if_pos h

theorem doseWater_eq (h : targetOf m .water s ≠ 0) :
    doseWater m s = deliver m .water (targetOf m .water s) (startPotLife m (beginComponent m .water s)) := if_neg h

theorem doseWater_seq (h : targetOf m .water s ≠ 0) :
    (doseWater m s).seq m =
      { s.seq m with
        component := some .water, dosed := 0, topUp := false, potLife := startedPotLife m s
        delivery := some { channel := .water, amount := targetOf m .water s, limit := some (s.oscillator + 120) } } := by
  have hp : startedPotLife m (beginComponent m .water s) = startedPotLife m s :=
    startedPotLife_congr (.withSeq _ rfl) (by simp) rfl
  rw [doseWater_eq h, deliver_seq, startPotLife_seq, startPotLife_oscillator, beginComponent_seq, hp]
  rfl

theorem doseWater_store (h : targetOf m .water s ≠ 0) : (doseWater m s).store = s.store := by
  rw [doseWater_eq h, startPotLife_eq]
  rfl

/-- R49 (1): chelant is dosed. -/
theorem enterLiquids_doses (h : targetOf m .chelant s ≠ 0) :
    enterLiquids m s =
      deliver m .chelant (targetOf m .chelant s) (beginComponent m .chelant (inStage m .charging .liquids s)) := by
  have ht := (inStage_sameBatch m .charging .liquids s).target .chelant
  rw [← ht]
  exact if_neg (by rw [show targetOf m .chelant (markStage m .liquids _) = _ from ht]; exact h)

theorem enterLiquids_seq (h : targetOf m .chelant s ≠ 0) :
    (enterLiquids m s).seq m =
      { s.seq m with
        state := .charging, stage := some .liquids, saved := none, component := some .chelant, dosed := 0, topUp := false
        delivery := some { channel := .chelant, amount := targetOf m .chelant s, limit := some (s.oscillator + 120) } } := by
  rw [enterLiquids_doses h, deliver_seq, beginComponent_seq, inStage_seq]
  simp [beginComponent, channelLimit, Config.meterLimit]

/-- R49 (1): a chelant target of 0 leaves water. -/
theorem enterLiquids_skips (h : targetOf m .chelant s = 0) :
    enterLiquids m s = doseWater m (writeActual m .chelant 0 (inStage m .charging .liquids s)) :=
  if_pos (((inStage_sameBatch m .charging .liquids s).target .chelant).trans h)

/-- R42 (1), R49: an accepted chelant. -/
theorem accept_chelant (m : Mixer) (s : State) :
    accept m .chelant s =
      if targetOf m .water s = 0 then doseWater m (startPotLife m (withSeq m (fun q => { q with component := none }) s))
      else doseWater m (withSeq m (fun q => { q with component := none }) s) := by
  have ht := (SameBatch.withSeq (m := m) (s := s) (fun q => { q with component := none }) rfl).target .water
  rw [← ht, ← apply_ite (doseWater m)]
  rfl

end liquids

/-! ### POUR (R55, R79, R80, R82) -/

/-- The mixer in stage POUR, before its first cycle. -/
def atPour (m : Mixer) (s : State) : State :=
  withSeq m (fun q => { q with component := none }) (setDrive m .agitate (inStage m .pouring .pour s))

section pour

variable {m : Mixer} {s : State}

@[simp] theorem atPour_seq (m : Mixer) (s : State) :
    (atPour m s).seq m =
      { s.seq m with state := .pouring, stage := some .pour, saved := none, drive := .agitate, component := none } := by
  simp [atPour]

@[simp] theorem atPour_station (m : Mixer) (s : State) (k : Mixer) : (atPour m s).station k = s.station k := by simp [atPour]
@[simp] theorem batchOf_atPour (m : Mixer) (s : State) : batchOf m (atPour m s) = batchOf m s := batchOf_congr (by simp) (by simp [atPour])

theorem atPour_sameBatch (m : Mixer) (s : State) : SameBatch m s (atPour m s) := .ofEq (batchOf_atPour m s) (by simp [atPour])

theorem atPour_contents (m : Mixer) (s : State) : contents m (atPour m s) = contents m s := by
  rw [contents_eq, contents_eq, batchOf_atPour, atPour_seq]

theorem atPour_marker {b : BatchRef} (h : (s.seq m).batch = some b) :
    (atPour m s).marker m = some { slot := b.slot, batch := b.id, stage := .pour } := by
  rw [← inStage_marker .pouring .pour h]
  simp [atPour, State.marker]

theorem enterPour_eq (m : Mixer) (s : State) :
    enterPour m s = if poured m s = castCount m s then pourEnd m (atPour m s) else beginCycle m (atPour m s) := by
  rw [← (atPour_sameBatch m s).poured, ← (atPour_sameBatch m s).castCount]
  rfl

/-- A station that keeps its claim leaves the places as they are. -/
theorem placeFree_withStation (m : Mixer) (f : PourStation → PourStation) (s : State)
    (h : (f (s.station m)).claim = (s.station m).claim) : placeFree (withStation m f s) = placeFree s := by
  have hc : claims (withStation m f s) = claims s := by
    unfold claims
    cases m with
    | a => exact congrArg (fun x => Bool.toNat x + _) h
    | b => exact congrArg (fun x => _ + Bool.toNat x) h
  rw [placeFree, placeFree, hc]
  rfl

theorem placeFree_congr {s t : State} (hs : t.stations = s.stations) (ht : t.transit = s.transit) : placeFree t = placeFree s := by
  unfold placeFree claims
  rw [hs, ht]

/-- A cycle that finds enough contents and a free place (R79, R80). -/
theorem beginCycle_calls (hw : (s.station m).tagWrite = none)
    (hc : shortLimit (classField m (·.castMass) s) ≤ contents m s) (hp : placeFree s = true) (hl : s.spaceList = []) :
    beginCycle m s = givePlace m (withStation m (fun x => { x with castIndex := some (poured m s + 1) }) s) := by
  rw [beginCycle, if_neg (by simp [hw]), if_neg (Nat.not_lt.2 hc)]
  exact if_pos ⟨(placeFree_withStation m _ s (by rfl)).trans hp, hl⟩

/-- The mixer has casts to pour, contents for the next and a place free for it. -/
structure CanPour (m : Mixer) (s : State) : Prop where
  left : poured m s < castCount m s
  enough : classField m (·.castMass) s / 2 ≤ contents m s
  unwritten : (s.station m).tagWrite = none
  place : placeFree s = true
  first : s.spaceList = []

theorem enterPour_calls (h : CanPour m s) :
    enterPour m s =
      givePlace m (withStation m (fun x => { x with castIndex := some (poured m s + 1) }) (atPour m s)) := by
  rw [enterPour_eq, if_neg (Nat.ne_of_lt h.left), ← (atPour_sameBatch m s).poured]
  refine beginCycle_calls (by rw [atPour_station]; exact h.unwritten) ?_ ?_ ?_
  · rw [atPour_contents, (atPour_sameBatch m s).classField]
    exact h.enough
  · exact (placeFree_congr (by simp [atPour]) (by simp [atPour])).trans h.place
  · simpa [atPour] using h.first

theorem givePlace_store (m : Mixer) (s : State) : (givePlace m s).store = s.store := rfl

theorem givePlace_transit (m : Mixer) (s : State) : (givePlace m s).transit = s.transit := rfl

theorem givePlace_seq (m : Mixer) (s : State) (k : Mixer) : (givePlace m s).seq k = s.seq k := rfl

theorem givePlace_station (m : Mixer) (s : State) :
    (givePlace m s).station m =
      { s.station m with claim := true, spaceWait := none, step := .mold, moldCall := some (s.oscillator + 60) } := by
  simp [givePlace, callMold, ahead, Config.moldCallLimit]

theorem enterPour_calls_seq (h : CanPour m s) :
    (enterPour m s).seq m =
      { s.seq m with state := .pouring, stage := some .pour, saved := none, drive := .agitate, component := none } := by
  rw [enterPour_calls h, givePlace_seq, withStation_seq, atPour_seq]

theorem enterPour_calls_station (h : CanPour m s) :
    (enterPour m s).station m =
      { s.station m with
        castIndex := some (poured m s + 1), claim := true, spaceWait := none, step := .mold
        moldCall := some (s.oscillator + 60) } := by
  rw [enterPour_calls h, givePlace_station, withStation_station, withStation_oscillator, atPour_station]
  simp [atPour]

theorem enterPour_calls_marker (h : CanPour m s) {b : BatchRef} (hb : (s.seq m).batch = some b) :
    (enterPour m s).marker m = some { slot := b.slot, batch := b.id, stage := .pour } := by
  rw [enterPour_calls h, State.marker, givePlace_store, withStation_store]
  exact atPour_marker hb

theorem enterPour_calls_frame (h : CanPour m s) :
    (enterPour m s).store.entries = s.store.entries ∧ (enterPour m s).store.batches = s.store.batches ∧
    (enterPour m s).transit = s.transit := by
  rw [enterPour_calls h, givePlace_store, withStation_store, givePlace_transit, withStation_transit]
  exact ⟨by simp [atPour], by simp [atPour], by simp [atPour]⟩

end pour

/-! ### The mix timer (R52) -/

/-- The mixer once its mix timer has run out. -/
def mixed (m : Mixer) (s : State) : State := withSeq m (fun q => { q with mixTimer := none }) (setDrive m .agitate s)

theorem mixed_stepped (m : Mixer) (s : State) : stepped m (mixed m s) = stepped m s :=
  (SameBatch.ofEq (by simp [mixed]) (by simp [mixed])).stepped

theorem mixExpires_due {m : Mixer} {s : State} (h : due s.oscillator (s.seq m).mixTimer = true) :
    mixExpires m s = if stepped m s then stepWait m .mix (.stage .pour) (mixed m s) else enterPour m (mixed m s) := by
  rw [← mixed_stepped]
  exact if_pos h

/-- Settles O29: the expiry by `mixExpires_due`, and the entry into POUR by the call it ends in. -/
theorem mixTimerExpiryLeadsToThePour : Obligations.MixTimerExpiryLeadsToThePour := by
  intro m s expired mixedState
  have acts : s.powered = true → ∀ x, mixExpires m (begin s) = x → Completes (.mixTimerExpiry m) s x [] :=
    fun hp x hx => event_makes (f := mixExpires m) rfl hp (mixExpires_kept m (.refl _)) hx
  refine ⟨fun hp he => ?early, fun hp he hst => ?stepped, fun hp he hst => ?unstepped, fun hleft henough hw hplace hfirst => ?pour⟩
  case early => exact event_ignored (f := mixExpires m) rfl hp (if_neg (Bool.eq_false_iff.1 he))
  case stepped => exact acts hp _ ((mixExpires_due (s := begin s) he).trans (if_pos hst))
  case unstepped => exact acts hp _ ((mixExpires_due (s := begin s) he).trans (if_neg (Bool.eq_false_iff.1 hst)))
  case pour =>
    have h : CanPour m s := ⟨hleft, henough, hw, hplace, hfirst⟩
    have hq := enterPour_calls_seq h
    obtain ⟨hentries, hbatches, htransit⟩ := enterPour_calls_frame h
    exact ⟨by rw [hq], by rw [hq], by rw [hq], enterPour_calls_station h, hentries, hbatches, htransit,
      enterPour_stable (hallKept_stable s) m (hallKept_refl s)⟩

end Sys2Proof.Proofs
end

section
/-! PROOF. MIXER STEP (R58) and the stages it enters. -/

namespace Sys2Proof.Proofs

open Sys2Proof.Machine

/-! ### The request (R58) -/

theorem mixerStep_stage {code : Nat} {m : Mixer} {st : Stage} {s : State} (hm : mixerOfCode code = some m)
    (hs : (s.seq m).state = .stepWait) (hst : (s.seq m).saved = some (.stage st)) :
    mixerStep code s = (enterStage m st s, .done .empty) := by
  rw [mixerStep, namingMixer_named _ _ hm]
  simp only [hs, hst]

theorem mixerStep_batchEnd {code : Nat} {m : Mixer} {s : State} (hm : mixerOfCode code = some m)
    (hs : (s.seq m).state = .stepWait) (hst : (s.seq m).saved = some .batchEnd) :
    mixerStep code s = (finishBatch m (withSeq m (fun q => { q with saved := none }) s), .done .empty) := by
  rw [mixerStep, namingMixer_named _ _ hm]
  simp only [hs, hst]

theorem mixerStep_state {code : Nat} {m : Mixer} {s : State} (hm : mixerOfCode code = some m)
    (hs : (s.seq m).state ≠ .stepWait) : mixerStep code s = (s, .refused .state .empty) := by
  rw [mixerStep, namingMixer_named _ _ hm]
  split
  · next h _ => exact absurd h hs
  · next h _ => exact absurd h hs
  · rfl

/-! ### LIQUIDS with no chelant (R49) -/

section liquids

variable {m : Mixer} {slot : Nat} {r : BatchRecord} {s : State}

/-- R49: stage LIQUIDS with the chelant's actual written 0. -/
def chelantSkipped (m : Mixer) (s : State) : State := writeActual m .chelant 0 (inStage m .charging .liquids s)

theorem chelantSkipped_seq (m : Mixer) (s : State) :
    (chelantSkipped m s).seq m = { s.seq m with state := .charging, stage := some .liquids, saved := none } := by
  simp [chelantSkipped]

theorem chelantSkipped_oscillator (m : Mixer) (s : State) : (chelantSkipped m s).oscillator = s.oscillator := by
  simp [chelantSkipped]

theorem chelantSkipped_sameBatch (m : Mixer) (s : State) : SameBatch m s (chelantSkipped m s) :=
  (inStage_sameBatch m .charging .liquids s).trans (.writeActual m .chelant 0 _)

theorem batchOf_chelantSkipped (h : batchOf m s = some (slot, r)) :
    batchOf m (chelantSkipped m s) = some (slot, { r with actuals := { r.actuals with chelant := some 0 } }) := by
  rw [chelantSkipped, batchOf_writeActual, batchOf_inStage, h]
  rfl

/-- Water alone is dosed. -/
theorem enterLiquids_water (hc : targetOf m .chelant s = 0) (hw : targetOf m .water s ≠ 0) :
    (enterLiquids m s).seq m =
      { s.seq m with
        state := .charging, stage := some .liquids, saved := none, component := some .water, dosed := 0, topUp := false
        potLife := startedPotLife m s
        delivery := some { channel := .water, amount := targetOf m .water s, limit := some (s.oscillator + 120) } } := by
  have hb := chelantSkipped_sameBatch m s
  have hp : startedPotLife m (chelantSkipped m s) = startedPotLife m s :=
    startedPotLife_congr hb (by rw [chelantSkipped_seq]) (chelantSkipped_oscillator m s)
  have hw' : targetOf m .water (chelantSkipped m s) ≠ 0 := by rw [hb.target]; exact hw
  rw [enterLiquids_skips hc, ← chelantSkipped, doseWater_seq hw', chelantSkipped_seq, hp, hb.target,
    chelantSkipped_oscillator]

theorem enterLiquids_water_batch (hb : batchOf m s = some (slot, r)) (hc : targetOf m .chelant s = 0)
    (hw : targetOf m .water s ≠ 0) :
    (enterLiquids m s).batch slot = some { r with actuals := { r.actuals with chelant := some 0 } } := by
  have hw' : targetOf m .water (chelantSkipped m s) ≠ 0 := by rw [(chelantSkipped_sameBatch m s).target]; exact hw
  rw [enterLiquids_skips hc, ← chelantSkipped, State.batch, doseWater_store hw']
  exact (batchOf_some (batchOf_chelantSkipped hb)).2

/-- R49: stage LIQUIDS with both actuals written 0. -/
def liquidsSkipped (m : Mixer) (s : State) : State := writeActual m .water 0 (chelantSkipped m s)

theorem enterLiquids_nothing (hc : targetOf m .chelant s = 0) (hw : targetOf m .water s = 0) :
    enterLiquids m s = afterLiquids m (liquidsSkipped m s) := by
  rw [enterLiquids_skips hc, ← chelantSkipped,
    doseWater_zero (((chelantSkipped_sameBatch m s).target .water).trans hw), ← liquidsSkipped]

theorem liquidsSkipped_seq (m : Mixer) (s : State) :
    (liquidsSkipped m s).seq m = { s.seq m with state := .charging, stage := some .liquids, saved := none } := by
  rw [liquidsSkipped, writeActual_seq, chelantSkipped_seq]

theorem liquidsSkipped_sameBatch (m : Mixer) (s : State) : SameBatch m s (liquidsSkipped m s) :=
  (chelantSkipped_sameBatch m s).trans (.writeActual m .water 0 _)

theorem liquidsSkipped_batch (h : batchOf m s = some (slot, r)) :
    (liquidsSkipped m s).batch slot =
      some { r with actuals := { r.actuals with chelant := some 0, water := some 0 } } :=
  writeActual_batch .water 0 (batchOf_chelantSkipped h)

theorem stepped_of_batchOf (h : batchOf m s = some (slot, r)) : stepped m s = r.stepped := by
  rw [stepped_eq, h]
  rfl

end liquids

/-! ### An accepted chelant (R42, R50) -/

section accepted

variable {m : Mixer} {s : State}

/-- The mixer with its component accepted. -/
def componentDone (m : Mixer) (s : State) : State := withSeq m (fun q => { q with component := none }) s

theorem componentDone_seq (m : Mixer) (s : State) : (componentDone m s).seq m = { s.seq m with component := none } :=
  withSeq_seq m _ s

theorem componentDone_sameBatch (m : Mixer) (s : State) : SameBatch m s (componentDone m s) := .withSeq _ rfl

theorem componentDone_startedPotLife (m : Mixer) (s : State) :
    startedPotLife m (componentDone m s) = startedPotLife m s :=
  startedPotLife_congr (componentDone_sameBatch m s) (by rw [componentDone_seq]) rfl

theorem accept_chelant_doses (h : targetOf m .water s ≠ 0) :
    (accept m .chelant s).seq m =
      { s.seq m with
        component := some .water, dosed := 0, topUp := false, potLife := startedPotLife m s
        delivery := some { channel := .water, amount := targetOf m .water s, limit := some (s.oscillator + 120) } } := by
  have ht := (componentDone_sameBatch m s).target .water
  rw [accept_chelant, if_neg h, ← componentDone, doseWater_seq (by rw [ht]; exact h), componentDone_seq,
    componentDone_startedPotLife, ht]
  rfl

theorem accept_chelant_done (h : targetOf m .water s = 0) :
    ((accept m .chelant s).seq m).potLife = startedPotLife m s := by
  have ht := (startPotLife_sameBatch m (componentDone m s)).target .water
  rw [accept_chelant, if_pos h, ← componentDone,
    doseWater_zero (ht.trans (((componentDone_sameBatch m s).target .water).trans h)), afterLiquids_potLife, writeActual_seq,
    startPotLife_seq, componentDone_startedPotLife]

end accepted

/-- Settles O30: the outcomes of the request, and each stage it may enter by the lemma of that stage. -/
theorem mixerStepEntersTheSavedStage : Obligations.MixerStepEntersTheSavedStage := by
  intro tag code slot m st r s q x chelant water kept started mixing dosing liquids inLiquids accepted
  refine ⟨?range, ?state, ?stage, ?batchEnd, ?mix, ?cement, ?pour, ?chelant, ?water, ?nothing, ?accepted, ?acceptedLast⟩
  case range => exact fun h hm => request_unchanged rfl h (namingMixer_range _ _ hm)
  case state => exact fun h hm hs => request_unchanged rfl h (mixerStep_state (s := x) hm hs)
  case stage => exact fun h hm hs hst => exec_request_replied rfl h (mixerStep_stage (s := x) hm hs hst)
  case batchEnd => exact fun h hm hs hst => exec_request_replied rfl h (mixerStep_batchEnd (s := x) hm hs hst)
  case mix =>
    have hq := enterMix_seq m s
    exact ⟨by rw [enterStage, hq], by rw [enterStage, hq], by rw [enterStage, hq], by rw [enterStage, hq],
      by rw [enterStage, hq], by rw [enterStage, hq]⟩
  case cement =>
    intro hidle t
    have ht : t = grant m s.arbiter.waiting (inStage m .charging .cement s) := enterCement_free (by rw [hidle]; rfl)
    have hq : t.seq m = weighing m (inStage m .charging .cement s) := by rw [ht, grant_seq]
    rw [hq, weighing, inStage_seq]
    exact ⟨rfl, rfl, rfl, by rw [ht, grant_eq]⟩
  case pour =>
    intro hleft henough hw hplace hfirst t
    have h : CanPour m s := ⟨hleft, henough, hw, hplace, hfirst⟩
    have hq : t.seq m = _ := enterPour_calls_seq h
    have hst : t.station m = _ := enterPour_calls_station h
    rw [hq, hst]
    exact ⟨rfl, rfl, rfl, rfl, rfl⟩
  case chelant =>
    intro hc
    have hq : liquids.seq m = _ := enterLiquids_seq hc
    simp only [inLiquids, dosing, hq]
    exact ⟨⟨trivial, trivial, trivial⟩, ⟨trivial, trivial, trivial, rfl⟩, rfl⟩
  case water =>
    intro hb hc hw
    have hq : liquids.seq m = _ := enterLiquids_water hc hw
    refine ⟨?_, ?_, ?_, enterLiquids_water_batch hb hc hw⟩
    · simp only [inLiquids, hq]
      exact ⟨trivial, trivial, trivial⟩
    · simp only [dosing, hq]
      exact ⟨trivial, trivial, trivial, rfl⟩
    · rw [hq]
      rfl
  case nothing =>
    intro hb hc hw
    have hl : liquids = afterLiquids m (liquidsSkipped m s) := enterLiquids_nothing hc hw
    have hstepped : stepped m (liquidsSkipped m s) = r.stepped :=
      (liquidsSkipped_sameBatch m s).stepped.trans (stepped_of_batchOf hb)
    refine ⟨?_, ?_, fun hst => ?_, fun hst => ?_⟩
    · rw [hl, afterLiquids_potLife, liquidsSkipped_seq]
    · rw [hl, State.batch, afterLiquids_batches]
      exact liquidsSkipped_batch hb
    · have hq := afterLiquids_unstepped (hstepped.trans hst)
      rw [liquidsSkipped_seq, (liquidsSkipped_sameBatch m s).classField] at hq
      simp only [mixing, hl, hq]
      exact ⟨trivial, trivial, trivial, trivial, trivial, by simp [liquidsSkipped, chelantSkipped_oscillator]⟩
    · rw [hl, afterLiquids_stepped (hstepped.trans hst)]
      exact ⟨rfl, rfl, rfl, rfl⟩
  case accepted =>
    intro hw
    have hq : accepted.seq m = _ := accept_chelant_doses hw
    simp only [dosing, hq]
    exact ⟨⟨trivial, trivial, trivial, rfl⟩, rfl⟩
  case acceptedLast => exact accept_chelant_done

end Sys2Proof.Proofs
end

section
/-! PROOF. The causes that launch holds (Table 4.1, R62, R69): each command by the branch of its operation. -/

namespace Sys2Proof.Proofs

open Sys2Proof.Machine

/-! ### A cause arises (R62) -/

section raised

variable {m : Mixer} {s : State}

/-- R62: the first cause during a fill or a cement discharge waits. -/
theorem raiseHold_waits (cause : HoldCause) (named : Option Component) (hs : holdable (s.seq m).state = true)
    (hf : inFlight m s = true) (hp : (s.seq m).pendingHold = none) :
    raiseHold m cause named s =
      withSeq m (fun q => { q with pendingHold := some { cause := cause, component := named } }) s := by
  rw [raiseHold, if_pos hs, if_pos hf, hp]

/-- R62: a second cause during one is not kept. -/
theorem raiseHold_dropped (cause : HoldCause) (named : Option Component) (hs : holdable (s.seq m).state = true)
    (hf : inFlight m s = true) (hp : (s.seq m).pendingHold ≠ none) : raiseHold m cause named s = s := by
  obtain ⟨p, hp⟩ := Option.ne_none_iff_exists'.1 hp
  rw [raiseHold, if_pos hs, if_pos hf, hp]

theorem inFlight_withSeq (m : Mixer) (f : Sequencer → Sequencer) (s : State)
    (h : (f (s.seq m)).delivery = (s.seq m).delivery) : inFlight m (withSeq m f s) = inFlight m s := by
  rw [inFlight, inFlight, withSeq_seq, h]
  rfl

theorem withSeq_withSeq (m : Mixer) (f g : Sequencer → Sequencer) (s : State) :
    withSeq m g (withSeq m f s) = withSeq m (fun q => g (f q)) s := by
  rw [withSeq, withSeq_seq, withSeq_mixers, put_put]
  rfl

end raised

/-! ### MIXER HOLD (R69) -/

section request

variable {tag code : Nat} {m : Mixer} {s : State} (h : linkFree s) (hm : mixerOfCode code = some m)

theorem mixerHold_running (hm : mixerOfCode code = some m) (hs : holdable (s.seq m).state = true) :
    mixerHold code s = (raiseHold m .operator none s, if inFlight m s then .taken else .done .empty) := by
  rw [mixerHold, namingMixer_named _ _ hm]
  exact if_pos hs

theorem mixerHold_refused (hm : mixerOfCode code = some m) (hs : holdable (s.seq m).state = false) :
    mixerHold code s = (s, .refused .state .empty) := by
  rw [mixerHold, namingMixer_named _ _ hm]
  exact if_neg (Bool.eq_false_iff.1 hs)

include h hm

theorem mixerHold_launches (hs : holdable (s.seq m).state = true) (hf : inFlight m s = false) :
    Completes (.mixerHold tag code) s
      ((launchHoldAt m .operator none (launchStage (s.seq m)) (s.holding tag (.mixerHold code))).answered tag
        (.mixerHold code) (.done .empty)) [] := by
  have hact : act (.mixerHold code) (s.holding tag (.mixerHold code)) =
      (launchHoldAt m .operator none (launchStage (s.seq m)) (s.holding tag (.mixerHold code)), .done .empty) := by
    refine (mixerHold_running (s := s.holding tag (.mixerHold code)) hm hs).trans ?_
    rw [raiseHold_launches .operator none (s := s.holding tag (.mixerHold code)) hs hf,
      if_neg (Bool.eq_false_iff.1 (show inFlight m (s.holding tag (.mixerHold code)) = false from hf))]
    rfl
  exact request_acts rfl h hact (launchHoldAt_kept _ _ _ _ (.refl _))
    (launchHoldAt_stable (awaitsReply_stable _) _ _ _ _ (holding_awaits tag _ h))

theorem mixerHold_waits (hs : holdable (s.seq m).state = true) (hf : inFlight m s = true)
    (hp : (s.seq m).pendingHold = none) :
    Completes (.mixerHold tag code) s
      ((withSeq m (fun x => { x with pendingHold := some { cause := .operator, component := none } }) s).answered tag
        (.mixerHold code) .taken) [] := by
  have hact := mixerHold_running (s := s.holding tag (.mixerHold code)) hm hs
  rw [raiseHold_waits .operator none (s := s.holding tag (.mixerHold code)) hs hf hp,
    if_pos (show inFlight m (s.holding tag (.mixerHold code)) = true from hf)] at hact
  obtain ⟨-, -, -, -, hreply, hsending, -⟩ := id h
  exact request_completes _ tag (.mixerHold code) _ s _
    (withSeq m (fun x => { x with pendingHold := some { cause := .operator, component := none } }) s) [] rfl h hact rfl
    hsending hreply rfl List.nil_prefix

theorem mixerHold_dropped (hs : holdable (s.seq m).state = true) (hf : inFlight m s = true)
    (hp : (s.seq m).pendingHold ≠ none) :
    Completes (.mixerHold tag code) s (s.answered tag (.mixerHold code) .taken) [] := by
  have hact := mixerHold_running (s := s.holding tag (.mixerHold code)) hm hs
  rw [raiseHold_dropped .operator none (s := s.holding tag (.mixerHold code)) hs hf hp,
    if_pos (show inFlight m (s.holding tag (.mixerHold code)) = true from hf)] at hact
  exact request_unchanged rfl h hact

end request

/-! ### The time limits (Table 3.2) -/

theorem deliveryExpires_due {m : Mixer} {d : Delivery} {s : State} (hd : (s.seq m).delivery = some d)
    (hdue : due s.oscillator d.limit = true) : deliveryExpires m s = deliveryTimedOut m d.channel s := by
  unfold deliveryExpires
  rw [hd]
  exact if_pos hdue

theorem deliveryExpires_early {m : Mixer} {s : State} (h : ∀ d, (s.seq m).delivery = some d → due s.oscillator d.limit = false) :
    deliveryExpires m s = s := by
  unfold deliveryExpires
  split
  · rfl
  · next d hd => exact if_neg (Bool.eq_false_iff.1 (h d hd))

/-- Table 3.2: what the limit of a dose or of a weighing raises. -/
theorem deliveryTimedOut_raises {m : Mixer} {ch : Channel} {k : HoldCause} {c : Component} (s : State)
    (h : (ch, k, c) ∈
      [(Channel.ash, HoldCause.feederTimeout, Component.ash), (.weighing, .scaleTimeout, .cement),
       (.chelant, .meterTimeout, .chelant), (.water, .meterTimeout, .water)]) :
    deliveryTimedOut m ch s = raiseHold m k (some c) s := by
  simp only [List.mem_cons, Prod.mk.injEq, List.not_mem_nil, or_false] at h
  obtain ⟨rfl, rfl, rfl⟩ | ⟨rfl, rfl, rfl⟩ | ⟨rfl, rfl, rfl⟩ | ⟨rfl, rfl, rfl⟩ := h
  · rfl
  · rfl
  · rfl
  · rfl

/-! ### The overload input (R53) -/

/-- The overload input of a mixer at a level. -/
def withOverload (m : Mixer) (level : Bool) (s : State) : State := withSeq m (fun q => { q with overloadInput := level }) s

theorem withOverload_seq (m : Mixer) (level : Bool) (s : State) :
    (withOverload m level s).seq m = { s.seq m with overloadInput := level } := withSeq_seq m _ s

theorem inFlight_withOverload (m : Mixer) (level : Bool) (s : State) : inFlight m (withOverload m level s) = inFlight m s :=
  inFlight_withSeq m _ s rfl

theorem overloadInput_asserts {m : Mixer} {s : State} (h : (s.seq m).overloadInput = false) :
    overloadInput m true s = overloadEvent m (withOverload m true s) := if_pos (by simp [h])

theorem overloadInput_stands {m : Mixer} {s : State} (h : (s.seq m).overloadInput = true) : overloadInput m true s = s := by
  have hsame : withOverload m true s = s := withSeq_unchanged (by rw [← h])
  exact (if_neg (by simp [h])).trans hsame

theorem overloadEvent_running {m : Mixer} {s : State} (h : (s.seq m).state ≠ .held) :
    overloadEvent m s = raiseHold m .motorOverload none s := by
  unfold overloadEvent
  split
  · next hs => exact absurd hs h
  · rfl

theorem holdable_ne_held {st : MixerState} (h : holdable st = true) : st ≠ .held := by
  rintro rfl
  cases h

/-! ### The commands -/

section events

variable {m : Mixer} {s : State} (hp : s.powered = true)
include hp

theorem deliveryTimeLimit_makes {x : State} (hx : deliveryExpires m (begin s) = x) : Completes (.deliveryTimeLimit m) s x [] :=
  event_makes (f := deliveryExpires m) rfl hp (deliveryExpires_kept m (.refl _)) hx

theorem motorOverload_makes {level : Bool} {x : State} (hx : overloadInput m level (begin s) = x) :
    Completes (.motorOverload m level) s x [] :=
  event_makes (f := overloadInput m level) rfl hp (overloadInput_kept m level (.refl _)) hx

theorem motorOverload_completes {level : Bool} {x : State} (hx : SameButSent x (overloadInput m level (begin s))) :
    Completes (.motorOverload m level) s x [] :=
  event_completes (f := overloadInput m level) rfl hp (overloadInput_kept m level (.refl _)) hx List.nil_prefix

theorem motorOverload_launches (hs : holdable (s.seq m).state = true) (hf : inFlight m s = false)
    (ho : (s.seq m).overloadInput = false) :
    Completes (.motorOverload m true) s
      (launchHoldAt m .motorOverload none (launchStage (s.seq m)) (withOverload m true (begin s))) [] := by
  have hq := withOverload_seq m true (begin s)
  refine motorOverload_makes hp ?_
  rw [overloadInput_asserts (s := begin s) ho, overloadEvent_running (by rw [hq]; exact holdable_ne_held hs),
    raiseHold_launches .motorOverload none (by rw [hq]; exact hs) ((inFlight_withOverload m true (begin s)).trans hf), hq]
  rfl

theorem motorOverload_waits (hs : holdable (s.seq m).state = true) (hf : inFlight m s = true)
    (ho : (s.seq m).overloadInput = false) (hn : (s.seq m).pendingHold = none) :
    Completes (.motorOverload m true) s
      (withSeq m (fun x =>
        { x with overloadInput := true, pendingHold := some { cause := .motorOverload, component := none } }) s) [] := by
  have hq := withOverload_seq m true (begin s)
  refine motorOverload_completes hp ?_
  rw [overloadInput_asserts (s := begin s) ho, overloadEvent_running (by rw [hq]; exact holdable_ne_held hs),
    raiseHold_waits .motorOverload none (by rw [hq]; exact hs) ((inFlight_withOverload m true (begin s)).trans hf)
      (by rw [hq]; exact hn),
    withOverload, withSeq_withSeq]
  exact (SameButSent.ofBegin s).withSeq m _

theorem motorOverload_dropped (hs : holdable (s.seq m).state = true) (hf : inFlight m s = true)
    (hn : (s.seq m).pendingHold ≠ none) :
    Completes (.motorOverload m true) s (withOverload m true s) [] := by
  have hq := withOverload_seq m true (begin s)
  have hx : overloadInput m true (begin s) = withOverload m true (begin s) := by
    cases ho : (s.seq m).overloadInput with
    | false =>
      rw [overloadInput_asserts (s := begin s) ho, overloadEvent_running (by rw [hq]; exact holdable_ne_held hs)]
      exact raiseHold_dropped .motorOverload none (by rw [hq]; exact hs) ((inFlight_withOverload m true (begin s)).trans hf)
        (by rw [hq]; exact hn)
    | true => exact if_neg (by simp [ho])
  refine motorOverload_completes hp ?_
  rw [hx]
  exact (SameButSent.ofBegin s).withSeq m _

end events

/-- Settles O32: MIXER HOLD by what `raiseHold` does with its cause, and each event by the branch of its operation. -/
theorem causesLaunchHolds : Obligations.CausesLaunchHolds := by
  intro tag code m d k c s hp st running q
  refine ⟨fun h hm hr => mixerHold_launches h hm hr.1 hr.2, mixerHold_waits, mixerHold_dropped, ?refused, ?range, ?timeLimit,
    ?discharge, ?early, fun hr => motorOverload_launches hp hr.1 hr.2, motorOverload_waits hp, motorOverload_dropped hp,
    ?stands, ?clears, ?spaceWait, ?moldCall, ?noSpaceWait, ?noMoldCall⟩
  case refused => exact fun h hm hs => request_unchanged rfl h (mixerHold_refused (s := s.holding tag q) hm hs)
  case range => exact fun h hm => request_unchanged rfl h (namingMixer_range _ _ hm)
  case timeLimit =>
    intro hr hd hdue hk
    refine deliveryTimeLimit_makes hp ?_
    rw [deliveryExpires_due (s := begin s) hd hdue, deliveryTimedOut_raises _ hk]
    exact raiseHold_launches k (some c) (s := begin s) hr.1 hr.2
  case discharge =>
    intro hd hdue hch
    refine deliveryTimeLimit_makes hp ?_
    rw [deliveryExpires_due (s := begin s) hd hdue, hch]
    rfl
  case early => exact fun h => event_ignored (f := deliveryExpires m) rfl hp (deliveryExpires_early (s := begin s) h)
  case stands => exact fun ho => event_ignored (f := overloadInput m true) rfl hp (overloadInput_stands (s := begin s) ho)
  case clears => exact motorOverload_completes hp ((SameButSent.ofBegin s).withSeq m _)
  case spaceWait =>
    intro hr hdue
    refine event_makes (f := spaceWaitExpires m) rfl hp (spaceWaitExpires_kept m (.refl _)) ?_
    refine (if_pos hdue).trans (raiseHold_launches .transitFull none hr.1 ?_)
    rw [← hr.2, inFlight, withStation_station]
    rfl
  case moldCall =>
    intro hr hdue
    refine event_makes (f := moldCallExpires m) rfl hp (moldCallExpires_kept m (.refl _)) ?_
    exact (if_pos hdue).trans (raiseHold_launches .noMold none (s := begin s) hr.1 hr.2)
  case noSpaceWait => exact fun h => event_ignored (f := spaceWaitExpires m) rfl hp (if_neg (Bool.eq_false_iff.1 h))
  case noMoldCall => exact fun h => event_ignored (f := moldCallExpires m) rfl hp (if_neg (Bool.eq_false_iff.1 h))

end Sys2Proof.Proofs
end

section
/-! PROOF. The stop of a delivery and of a cycle (R40, R66), the lockout (R67) and the entry into DISCHARGING (R51, R59, R74). -/

namespace Sys2Proof.Proofs

open Sys2Proof.Machine

/-! ### The stop of a delivery (R40, R64) -/

section stopDelivery

variable {m : Mixer} {s : State}

theorem stopDelivery_none (h : (s.seq m).delivery = none) : stopDelivery m s = s := by
  unfold stopDelivery
  rw [h]

/-- What a stop reads and charges: nothing of a weighing and of a reject discharge. -/
theorem stopDelivery_cases (m : Mixer) (s : State) :
    stopDelivery m s = s ∨
    ∃ ch, let t := endDelivery m (emit (.stopDelivery m ch) s)
      stopDelivery m s = t ∨ (∃ c, stopDelivery m s = charge m c (stopReading s) (takeReading t)) ∨
      stopDelivery m s = chargeCement m (stopReading s) (takeReading t) := by
  cases h : (s.seq m).delivery with
  | none => exact .inl (stopDelivery_none h)
  | some d =>
    cases hc : d.channel with
    | reject => exact .inl (by simp only [stopDelivery, h, hc])
    | weighing => exact .inr ⟨.weighing, .inl (by simp only [stopDelivery, h, hc])⟩
    | discharge => exact .inr ⟨.discharge, .inr (.inr (by simp only [stopDelivery, h, hc]))⟩
    | ash => exact .inr ⟨.ash, .inr (.inl ⟨.ash, by simp only [stopDelivery, h, hc]⟩)⟩
    | chelant => exact .inr ⟨.chelant, .inr (.inl ⟨.chelant, by simp only [stopDelivery, h, hc]⟩)⟩
    | water => exact .inr ⟨.water, .inr (.inl ⟨.water, by simp only [stopDelivery, h, hc]⟩)⟩

@[simp] theorem takeReading_seq (s : State) (k : Mixer) : (takeReading s).seq k = s.seq k := rfl

/-- A stop changes of its sequencer the delivery and what has been dosed. -/
theorem stopDelivery_seq (m : Mixer) (s : State) :
    ∃ delivery dosed drum, (stopDelivery m s).seq m =
      { s.seq m with delivery := delivery, dosed := dosed, cementInDrum := drum } := by
  obtain h | ⟨ch, h | ⟨c, h⟩ | h⟩ := stopDelivery_cases m s
  · exact ⟨_, _, _, by rw [h]⟩
  · exact ⟨none, _, _, by rw [h, endDelivery, withSeq_seq, emit_seq]⟩
  · exact ⟨none, (s.seq m).dosed + stopReading s, (s.seq m).cementInDrum, by rw [h]; simp [charge, endDelivery]⟩
  · exact ⟨none, (s.seq m).cementInDrum + stopReading s, (s.seq m).cementInDrum + stopReading s,
      by rw [h]; simp [chargeCement, endDelivery]⟩

/-- What a stop leaves as it is. -/
theorem stopDelivery_frame (m : Mixer) (s : State) :
    (stopDelivery m s).stations = s.stations ∧ (stopDelivery m s).arbiter = s.arbiter ∧
    (stopDelivery m s).store.entries = s.store.entries ∧ (stopDelivery m s).store.markers = s.store.markers ∧
    (stopDelivery m s).clock = s.clock := by
  obtain h | ⟨ch, h | ⟨c, h⟩ | h⟩ := stopDelivery_cases m s
  · rw [h]
    exact ⟨rfl, rfl, rfl, rfl, rfl⟩
  · rw [h]
    exact ⟨rfl, rfl, rfl, rfl, rfl⟩
  · rw [h]
    simp [charge, endDelivery]
  · rw [h]
    simp [chargeCement, endDelivery]

theorem stopDelivery_sameBatch (m : Mixer) (s : State) : SameBatch m s (stopDelivery m s) := by
  have ended : ∀ o, SameBatch m s (takeReading (endDelivery m (emit o s))) := fun o =>
    .ofEq (batchOf_congr (by simp [endDelivery]) rfl) rfl
  obtain h | ⟨ch, h | ⟨c, h⟩ | h⟩ := stopDelivery_cases m s
  · rw [h]
    exact .refl m s
  · rw [h]
    exact .ofEq (batchOf_congr (by simp [endDelivery]) rfl) rfl
  · rw [h, charge]
    exact ((ended _).trans (.withSeq _ rfl)).trans (.writeActual m c _ _)
  · rw [h, chargeCement]
    exact ((ended _).trans (.withSeq _ rfl)).trans (.writeActual m .cement _ _)

end stopDelivery

/-! ### The stop of a cycle (R66, R90) -/

theorem placeFreed_eq (s : State) :
    placeFreed s =
      { s with
        stations := (placeFreed s).stations, spaceList := (placeFreed s).spaceList, outputs := (placeFreed s).outputs } := by
  unfold placeFreed
  split
  · rfl
  · split <;> rfl

theorem clearGate_eq (m : Mixer) (s : State) : clearGate m s = { s with outputs := (clearGate m s).outputs } := by
  unfold clearGate
  dsimp only
  split
  · split <;> rfl
  · split <;> rfl

theorem giveUpPlace_eq (m : Mixer) (s : State) :
    giveUpPlace m s =
      { s with
        stations := (giveUpPlace m s).stations, spaceList := (giveUpPlace m s).spaceList
        outputs := (giveUpPlace m s).outputs } := by
  unfold giveUpPlace
  dsimp only
  split
  · rw [placeFreed_eq]
    rfl
  · rfl

theorem stopCycle_eq (m : Mixer) (s : State) :
    stopCycle m s =
      { s with
        stations := (stopCycle m s).stations, spaceList := (stopCycle m s).spaceList, outputs := (stopCycle m s).outputs } := by
  unfold stopCycle
  rw [giveUpPlace_eq, clearGate_eq]
  rfl

@[simp] theorem stopCycle_seq (m k : Mixer) (s : State) : (stopCycle m s).seq k = s.seq k := by rw [stopCycle_eq]; rfl
@[simp] theorem stopCycle_store (m : Mixer) (s : State) : (stopCycle m s).store = s.store := by rw [stopCycle_eq]
@[simp] theorem stopCycle_clock (m : Mixer) (s : State) : (stopCycle m s).clock = s.clock := by rw [stopCycle_eq]
@[simp] theorem stopCycle_arbiter (m : Mixer) (s : State) : (stopCycle m s).arbiter = s.arbiter := by rw [stopCycle_eq]

/-! ### The lockout (R67) -/

section lockout

variable (m : Mixer) (second : SecondCause) (s : State)

/-- A mixer that has been locked out, before its notice. -/
def locked : State :=
  withSeq m (fun q => { q with potLife := .stopped, blocked := true, state := .lockout })
    (setDrive m .stopped (withSeq m (fun q => { q with lockout := some { second := second, time := s.clock } }) s))

theorem locked_eq :
    locked m second s =
      { s with
        mixers := s.mixers.put m
          { s.seq m with
            lockout := some { second := second, time := s.clock }, drive := .stopped, potLife := .stopped, blocked := true,
            state := .lockout }
        outputs := (locked m second s).outputs } := by
  unfold locked
  rw [withSeq, setDrive_seq, withSeq_seq, setDrive_mixers, withSeq_seq, withSeq_mixers, put_put, put_put, setDrive_eq]
  rfl

variable {m second s}

theorem lockOut_held {h : HoldRecord} (hh : (s.seq m).hold = some h) :
    lockOut m second s =
      raise (.mixerLockout m (batchId m s) (orderNumber m s) second s.clock h.cause h.stage) (locked m second s) := by
  have hq : ((locked m second s).seq m).batch = (s.seq m).batch := by simp [locked]
  have hid : batchId m (locked m second s) = batchId m s := by rw [batchId, hq]; rfl
  have horder : orderNumber m (locked m second s) = orderNumber m s := by
    rw [orderNumber, batchOf_congr hq (by simp [locked])]
    rfl
  rw [← hid, ← horder]
  unfold lockOut
  rw [hh]
  rfl

/-- R67: a lockout changes the sequencer, and the Plant Link by its notice. -/
theorem lockOut_form {h : HoldRecord} (hh : (s.seq m).hold = some h) :
    ∃ p o, lockOut m second s =
      { s with
        mixers := s.mixers.put m
          { s.seq m with
            lockout := some { second := second, time := s.clock }, drive := .stopped, potLife := .stopped, blocked := true,
            state := .lockout }
        plantLink := p, outputs := o } := by
  rw [lockOut_held hh, locked_eq]
  exact ⟨_, _, raise_eq _ _⟩

/-- What is raised joins the Plant Link alike wherever the Plant Link is alike. -/
theorem raise_plantLink_congr (n : Notice) {s t : State} (h : t.plantLink = s.plantLink) :
    (raise n t).plantLink = (raise n s).plantLink := by
  have hkick : ∀ {u v : State}, u.plantLink = v.plantLink → (kick u).plantLink = (kick v).plantLink := by
    intro u v huv
    unfold kick
    rw [huv]
    split
    · exact huv
    · split
      · rfl
      · split
        · exact huv
        · split
          · exact huv
          · rfl
  unfold raise queueNotice
  rw [h]
  split
  · rfl
  · refine hkick ?_
    split
    · rfl
    · rfl

end lockout

/-! ### DISCHARGING (R59) -/

section discharging

variable (m : Mixer) (cause : Option EndCause) (amount : Nat) (s : State)

/-- The mixer stopped for DISCHARGING, before its marker and the reject discharge. -/
def stopped : State :=
  withSeq m (fun q =>
    { q with state := .discharging, stage := none, component := none, potLife := .stopped, dischargeCause := cause })
    (stopCycle m (withSeq m (fun q =>
      { q with mixTimer := none, saved := none, pendingHold := none, pendingExpiry := false }) s))

theorem enterDischarging_eq :
    enterDischarging m cause amount s =
      deliver m .reject amount (markStage m .discharging (setDrive m .agitate (stopped m cause s))) := rfl

theorem enterDischarging_seq :
    (enterDischarging m cause amount s).seq m =
      { s.seq m with
        mixTimer := none, saved := none, pendingHold := none, pendingExpiry := false, state := .discharging, stage := none
        component := none, potLife := .stopped, dischargeCause := cause, drive := .agitate
        delivery := some { channel := .reject, amount := amount, limit := none } } := by
  rw [enterDischarging_eq, deliver_seq]
  simp [stopped, channelLimit]

theorem enterDischarging_entries : (enterDischarging m cause amount s).store.entries = s.store.entries := by
  rw [enterDischarging_eq, deliver]
  simp [stopped]

variable {m s}

theorem enterDischarging_marker {b : BatchRef} (h : (s.seq m).batch = some b) :
    (enterDischarging m cause amount s).marker m = some { slot := b.slot, batch := b.id, stage := .discharging } := by
  rw [enterDischarging_eq]
  exact markStage_marker .discharging (by simpa [stopped] using h)

end discharging

/-! ### The expiry of the pot life (R51) -/

section potLife

variable {m : Mixer} {s : State}

theorem potLifeExpires_due (h : due s.oscillator (s.seq m).potLife.expiry? = true) :
    potLifeExpires m s = potLifeOver m s := if_pos h

/-- R51: the states in which an expiry discharges the mixer at once. -/
theorem potLifeOver_discharges
    (h : (s.seq m).state = .charging ∨ (s.seq m).state = .mixing ∨ (s.seq m).state = .stepWait ∨
      ((s.seq m).state = .pouring ∧ (s.station m).fill = none)) :
    potLifeOver m s = dischargeNow m .potLife s := by
  unfold potLifeOver
  obtain h | h | h | ⟨h, hf⟩ := h
  · rw [h]
  · rw [h]
  · rw [h]
  · rw [h]
    exact if_neg (by simp [hf])

theorem potLifeOver_held (h : (s.seq m).state = .held) : potLifeOver m s = lockOut m .potLife s := by
  unfold potLifeOver
  rw [h]

theorem potLifeOver_filling (h : (s.seq m).state = .pouring) (hf : (s.station m).fill.isSome = true) :
    potLifeOver m s = withSeq m (fun q => { q with pendingExpiry := true }) s := by
  unfold potLifeOver
  rw [h]
  exact if_pos hf

/-- R51 (log 3): the pot-life timer runs out only where it runs, and at its time. -/
theorem potLife_due_iff (now e : Nat) : due now (PotLife.running e).expiry? = true ↔ e ≤ now := by
  simp [due, PotLife.expiry?]

theorem potLife_not_due {p : PotLife} (h : p = .notStarted ∨ p = .stopped) (now : Nat) : due now p.expiry? = false := by
  obtain rfl | rfl := h
  · rfl
  · rfl

end potLife

/-! ### MIXER ABANDON (R74) -/

theorem mixerAbandon_held {code : Nat} {m : Mixer} {s : State} (hm : mixerOfCode code = some m) (hs : (s.seq m).state = .held) :
    mixerAbandon code s = (dischargeNow m .abandoned (withSeq m (fun q => { q with blocked := false }) s), .taken) := by
  rw [mixerAbandon, namingMixer_named _ _ hm]
  simp only [hs]

theorem mixerAbandon_refused {code : Nat} {m : Mixer} {s : State} (hm : mixerOfCode code = some m)
    (hs : (s.seq m).state ≠ .held) : mixerAbandon code s = (s, .refused .state .empty) := by
  rw [mixerAbandon, namingMixer_named _ _ hm]
  split
  · next h => exact absurd h hs
  · rfl

/-- Settles O33: the lockout by `locked_eq`, the discharge by `enterDischarging_seq`, and each command by its branch. -/
theorem lockoutAndDischarging : Obligations.LockoutAndDischarging := by
  intro tag code m second cause h b s hp st expired
  have expiry : ∀ x, potLifeExpires m (begin s) = x → Completes (.potLifeExpiry m) s x [] :=
    fun x hx => event_makes (f := potLifeExpires m) rfl hp (potLifeExpires_kept m (.refl _)) hx
  refine ⟨?lockout, ?discharge, ?heldExpiry, ?heldOverload, ?expiry, ?filling, ?early, ?notRunning, ?running, ?abandon⟩
  case lockout =>
    intro hh t
    obtain ⟨p, o, ht⟩ : ∃ p o, t = _ := lockOut_form hh
    refine ⟨by rw [ht], by rw [ht], ?_⟩
    exact (congrArg State.plantLink (lockOut_held hh)).trans (raise_plantLink_congr _ (by rw [locked_eq]))
  case discharge =>
    intro t
    obtain ⟨_, _, _, hstop⟩ := stopDelivery_seq m s
    have hq : t.seq m = _ := enterDischarging_seq m (some cause) (contents m (stopDelivery m s)) (stopDelivery m s)
    obtain ⟨-, -, hentries, -, -⟩ := stopDelivery_frame m s
    refine ⟨by rw [hq], by rw [hq], by rw [hq], by rw [hq], by rw [hq], by rw [hq], by rw [hq], by rw [hq], by rw [hq],
      by rw [hq, hstop], by rw [hq], fun hb => ?_, ?_⟩
    · exact enterDischarging_marker (some cause) _ (by rw [hstop]; exact hb)
    · exact (enterDischarging_entries m (some cause) _ _).trans hentries
  case heldExpiry =>
    exact fun he hs => expiry _ ((potLifeExpires_due (s := begin s) he).trans (potLifeOver_held (s := begin s) hs))
  case heldOverload =>
    intro hs ho
    refine motorOverload_makes hp ((overloadInput_asserts (s := begin s) ho).trans ?_)
    have hheld : ((withOverload m true (begin s)).seq m).state = .held := by rw [withOverload_seq]; exact hs
    simp only [overloadEvent, hheld]
    rfl
  case expiry =>
    exact fun he hs => expiry _ ((potLifeExpires_due (s := begin s) he).trans (potLifeOver_discharges (s := begin s) hs))
  case filling =>
    intro he hs hf
    refine event_completes (f := potLifeExpires m) rfl hp (potLifeExpires_kept m (.refl _)) ?_ List.nil_prefix
    rw [potLifeExpires_due (s := begin s) he, potLifeOver_filling (s := begin s) hs hf]
    exact (SameButSent.ofBegin s).withSeq m _
  case early => exact fun he => event_ignored (f := potLifeExpires m) rfl hp (if_neg (Bool.eq_false_iff.1 he))
  case notRunning => exact fun hpot => potLife_not_due hpot s.oscillator
  case running =>
    intro e he
    show due s.oscillator (s.seq m).potLife.expiry? = true ↔ _
    rw [he]
    exact potLife_due_iff s.oscillator e
  case abandon =>
    intro hl hm q
    refine ⟨fun hs => ?_, fun hs => request_unchanged rfl hl (mixerAbandon_refused (s := s.holding tag q) hm hs)⟩
    exact request_acts rfl hl (mixerAbandon_held (s := s.holding tag q) hm hs)
      (dischargeNow_kept _ _ (withSeq_kept _ _ (.refl _)))
      (dischargeNow_stable (awaitsReply_stable _) _ _ ((awaitsReply_stable _).seq _ _ (holding_awaits tag _ hl)))

end Sys2Proof.Proofs
end

section
/-! PROOF. The launch of a hold (R46, R64, R66, Tables 4.2 and 4.3): what it makes of the sequencer, the station and the scale. -/

namespace Sys2Proof.Proofs

open Sys2Proof.Machine

/-! ### The scale (R46) -/

section leaveScale

/-- The list without the mixer that leaves it. -/
theorem leaveScale_cases (m : Mixer) (s : State) :
    let w := s.arbiter.waiting.filter fun x => decide (x ≠ m)
    let t := { s with arbiter := { s.arbiter with waiting := w } }
    (s.arbiter.holder ≠ some m ∧ leaveScale m s = t) ∨
    (s.arbiter.holder = some m ∧ leaveScale m s = releaseGrant (emit .scaleToReturn t)) := by
  by_cases h : s.arbiter.holder = some m
  · exact .inr ⟨h, if_pos h⟩
  · exact .inl ⟨h, if_neg h⟩

theorem leaveScale_eq (m : Mixer) (s : State) :
    leaveScale m s =
      { s with
        mixers := (leaveScale m s).mixers, arbiter := (leaveScale m s).arbiter, outputs := (leaveScale m s).outputs } := by
  obtain ⟨-, h⟩ | ⟨-, h⟩ := leaveScale_cases m s
  · rw [h]
  · rw [h, releaseGrant_eq]
    rfl

/-- A release passes the grant to the head of the list. -/
theorem releaseGrant_spares {m : Mixer} {s : State} (h : m ∉ s.arbiter.waiting) :
    (releaseGrant s).seq m = s.seq m ∧ (releaseGrant s).arbiter.holder ≠ some m := by
  cases hw : s.arbiter.waiting with
  | nil =>
    rw [releaseGrant_idle hw]
    exact ⟨rfl, nofun⟩
  | cons k rest =>
    have hk : m ≠ k := by
      rintro rfl
      exact h (hw ▸ List.mem_cons_self ..)
    rw [releaseGrant_grants hw]
    refine ⟨grant_seq_other rest s hk, ?_⟩
    rw [grant_eq]
    exact fun he => hk (Option.some.inj he).symm

/-- R46 (1), (2): a mixer that leaves the scale has no grant, and its sequencer is as it was. -/
theorem leaveScale_spares (m : Mixer) (s : State) :
    (leaveScale m s).seq m = s.seq m ∧ (leaveScale m s).arbiter.holder ≠ some m := by
  obtain ⟨hn, h⟩ | ⟨-, h⟩ := leaveScale_cases m s
  · rw [h]
    exact ⟨rfl, hn⟩
  · rw [h]
    exact releaseGrant_spares (by simp)

end leaveScale

/-! ### The station (R66, R90) -/

section stopCycle

variable {m : Mixer} {s : State}

theorem givePlace_station_other {m k : Mixer} (s : State) (h : m ≠ k) : (givePlace k s).station m = s.station m := by
  rw [givePlace, callMold, withStation_station_other _ _ h, emit_station, withStation_station_other _ _ h]

theorem placeFreed_station (h : m ∉ s.spaceList) : (placeFreed s).station m = s.station m := by
  unfold placeFreed
  split
  · rfl
  · next k rest hl =>
    have hk : m ≠ k := by
      rintro rfl
      exact h (hl ▸ List.mem_cons_self ..)
    split
    · exact givePlace_station_other _ hk
    · rfl

/-- R90 (1), (2): a station with no fill in progress gives up its claim. -/
theorem giveUpPlace_station (h : (s.station m).fill = none) :
    (giveUpPlace m s).station m = { s.station m with claim := false, spaceWait := none } := by
  have hg : (withStation m (fun x => { x with claim := x.claim && x.fill.isSome, spaceWait := none })
      { s with spaceList := s.spaceList.filter fun x => decide (x ≠ m) }).station m =
        { s.station m with claim := false, spaceWait := none } := by
    rw [withStation_station]
    simp [State.station] at h ⊢
    exact fun _ => h
  unfold giveUpPlace
  dsimp only
  split
  · rw [placeFreed_station (by simp)]
    exact hg
  · exact hg

theorem stopCycle_station (h : (s.station m).fill = none) :
    (stopCycle m s).station m =
      { s.station m with
        step := if (s.station m).tagWrite.isSome then .write else .none
        castIndex := none, moldCall := none, mold := none, readAttempts := 0, claim := false, spaceWait := none } := by
  have hg : (clearGate m s).station m = s.station m := by rw [clearGate_eq]; rfl
  unfold stopCycle
  rw [giveUpPlace_station (by rw [withStation_station, hg]; exact h), withStation_station, hg]

end stopCycle

/-! ### The launch (R64) -/

/-- The mixer brought to rest for a hold, before the hold record is written. -/
def halted (m : Mixer) (s : State) : State :=
  let t := withSeq m (fun q => { q with mixTimer := none }) (leaveScale m (stopDelivery m s))
  if (t.seq m).state = .pouring then stopCycle m t else t

section launch

variable (m : Mixer) (s : State)

/-- What the rest before a hold makes of the station. -/
theorem halted_cases :
    let t := withSeq m (fun q => { q with mixTimer := none }) (leaveScale m (stopDelivery m s))
    halted m s = stopCycle m t ∨ halted m s = t := by
  unfold halted
  dsimp only
  split
  · exact .inl rfl
  · exact .inr rfl

theorem halted_seq : (halted m s).seq m = { (stopDelivery m s).seq m with mixTimer := none } := by
  obtain h | h := halted_cases m s
  · rw [h, stopCycle_seq, withSeq_seq, (leaveScale_spares m _).1]
  · rw [h, withSeq_seq, (leaveScale_spares m _).1]

theorem halted_frame :
    (halted m s).store = (stopDelivery m s).store ∧ (halted m s).clock = (stopDelivery m s).clock ∧
    (halted m s).arbiter.holder ≠ some m := by
  have hs : (leaveScale m (stopDelivery m s)).store = (stopDelivery m s).store := by rw [leaveScale_eq]
  have hc : (leaveScale m (stopDelivery m s)).clock = (stopDelivery m s).clock := by rw [leaveScale_eq]
  have hh := (leaveScale_spares m (stopDelivery m s)).2
  obtain h | h := halted_cases m s
  · rw [h]
    simpa using ⟨hs, hc, hh⟩
  · rw [h]
    exact ⟨hs, hc, hh⟩

/-- The hold record is that of the mixer once its delivery has been stopped. -/
theorem halted_holdRecord (cause : HoldCause) (named : Option Component) (st : Stage) :
    holdRecord m cause named st (halted m s) = holdRecord m cause named st (stopDelivery m s) := by
  obtain ⟨hstore, hclock, -⟩ := halted_frame m s
  have hq := halted_seq m s
  have hp : poured m (halted m s) = poured m (stopDelivery m s) :=
    (SameBatch.ofEq (batchOf_congr (by rw [hq]) (by rw [hstore])) (by rw [hstore])).poured
  unfold holdRecord
  rw [hq, hp, hclock]

variable (cause : HoldCause) (named : Option Component) (st : Stage)

/-- The mixer held, before its notice. -/
def heldState : State :=
  withSeq m (fun q => { q with blocked := true, pendingHold := none, state := .held })
    (setDrive m .agitate
      (withSeq m (fun q => { q with hold := some (holdRecord m cause named st (halted m s)), saved := none, stage := none })
        (halted m s)))

theorem launchHoldAt_eq :
    launchHoldAt m cause named st s =
      raise (.mixerHeld m (batchId m (heldState m s cause named st)) (orderNumber m (heldState m s cause named st))
        (holdRecord m cause named st (halted m s))) (heldState m s cause named st) := rfl

/-- R64, Table 4.3: the sequencer of a mixer that is held. -/
theorem launchHoldAt_seq :
    (launchHoldAt m cause named st s).seq m =
      { (stopDelivery m s).seq m with
        mixTimer := none, hold := some (holdRecord m cause named st (stopDelivery m s)), saved := none, stage := none
        drive := .agitate, blocked := true, pendingHold := none, state := .held } := by
  rw [launchHoldAt_eq, raise_seq, heldState, withSeq_seq, setDrive_seq, withSeq_seq, halted_holdRecord, halted_seq]

theorem launchHoldAt_store : (launchHoldAt m cause named st s).store = (stopDelivery m s).store := by
  rw [launchHoldAt_eq, raise_store, heldState, withSeq_store, setDrive_store, withSeq_store, (halted_frame m s).1]

theorem launchHoldAt_holder : (launchHoldAt m cause named st s).arbiter.holder ≠ some m := by
  rw [launchHoldAt_eq, raise_arbiter, heldState, withSeq_arbiter, setDrive_arbiter, withSeq_arbiter]
  exact (halted_frame m s).2.2

theorem launchHoldAt_station : (launchHoldAt m cause named st s).station m = (halted m s).station m := by
  rw [launchHoldAt_eq, raise_station, heldState, withSeq_station, setDrive_station, withSeq_station]

variable {m s}

/-- R66: the station of a POURING mixer with no fill in progress. -/
theorem halted_station (hs : (s.seq m).state = .pouring) (hf : (s.station m).fill = none) :
    ((halted m s).station m).claim = false ∧ ((halted m s).station m).moldCall = none ∧
    ((halted m s).station m).unreadable = (s.station m).unreadable := by
  have hst : (withSeq m (fun q => { q with mixTimer := none }) (leaveScale m (stopDelivery m s))).station m = s.station m := by
    rw [withSeq_station, State.station, leaveScale_eq, (stopDelivery_frame m s).1]
    rfl
  obtain ⟨_, _, _, hq⟩ := stopDelivery_seq m s
  have hp : ((withSeq m (fun q => { q with mixTimer := none }) (leaveScale m (stopDelivery m s))).seq m).state = .pouring := by
    rw [withSeq_seq, (leaveScale_spares m _).1, hq]
    exact hs
  have hh : halted m s = stopCycle m (withSeq m (fun q => { q with mixTimer := none }) (leaveScale m (stopDelivery m s))) :=
    if_pos hp
  rw [hh, stopCycle_station (by rw [hst]; exact hf), hst]
  exact ⟨rfl, rfl, rfl⟩

theorem stopDelivery_delivery (h : ∀ d, (s.seq m).delivery = some d → d.channel ≠ .reject) :
    ((stopDelivery m s).seq m).delivery = none := by
  cases hd : (s.seq m).delivery with
  | none => rw [stopDelivery_none hd, hd]
  | some d =>
    have hr := h d hd
    unfold stopDelivery
    simp only [hd]
    cases hc : d.channel with
    | reject => exact absurd hc hr
    | ash => simp [charge, endDelivery]
    | chelant => simp [charge, endDelivery]
    | water => simp [charge, endDelivery]
    | weighing => simp [endDelivery]
    | discharge => simp [chargeCement, endDelivery]

end launch

end Sys2Proof.Proofs
end

section
/-! PROOF. The dose deviation of a resumed OVERDOSE (R73): the flag of the batch and the hold cause of its casts. -/

namespace Sys2Proof.Proofs

open Sys2Proof.Machine

/-! ### Nothing but entries -/

section onlyEntries

variable {s t u : State}

theorem onlyEntries_refl (s : State) : OnlyEntries s s := rfl

theorem onlyEntries_trans (h : OnlyEntries s t) (k : OnlyEntries t u) : OnlyEntries s u := by
  unfold OnlyEntries at *
  rw [k, h]

theorem writeEntry_onlyEntries (p : Nat) (e : Entry) (s : State) : OnlyEntries s (writeEntry p e s) := rfl

theorem raise_onlyEntries (n : Notice) (s : State) : OnlyEntries s (raise n s) := by
  unfold OnlyEntries
  rw [raise_eq]

theorem putCast_onlyEntries (p : Nat) (c : CastPart) (s : State) : OnlyEntries s (putCast p c s) := by
  unfold putCast
  split
  · split
    · exact onlyEntries_refl s
    · exact writeEntry_onlyEntries p _ s
  · exact onlyEntries_refl s

theorem updateCast_onlyEntries (p : Nat) (f : CastPart → CastPart) (s : State) : OnlyEntries s (updateCast p f s) := by
  unfold updateCast
  split
  · exact putCast_onlyEntries p _ s
  · exact onlyEntries_refl s

theorem evaluateAt_onlyEntries (p : Nat) (s : State) : OnlyEntries s (evaluateAt p s) := by
  unfold evaluateAt
  split
  · exact onlyEntries_refl s
  · dsimp only
    split
    · exact putCast_onlyEntries p _ s
    · exact onlyEntries_trans (putCast_onlyEntries p _ s) (raise_onlyEntries _ _)

theorem doseAt_onlyEntries (slot id p : Nat) (s : State) : OnlyEntries s (doseAt slot id p s) := by
  unfold doseAt
  split
  · exact onlyEntries_refl s
  · split
    · dsimp only
      split
      · exact onlyEntries_trans (updateCast_onlyEntries p _ s) (evaluateAt_onlyEntries p _)
      · exact updateCast_onlyEntries p _ s
    · exact onlyEntries_refl s

theorem onlyEntries_batchOf {m : Mixer} (h : OnlyEntries s t) : batchOf m t = batchOf m s := by
  have hm : t.mixers = s.mixers := by rw [h]
  have hb : t.store.batches = s.store.batches := by rw [h]
  exact batchOf_congr (by rw [State.seq, hm]; rfl) hb

/-- R73 over a list of positions. -/
def doseAll (slot id : Nat) (ps : List Nat) (s : State) : State := ps.foldl (fun t p => doseAt slot id p t) s

theorem doseAll_onlyEntries (slot id : Nat) (ps : List Nat) (s : State) : OnlyEntries s (doseAll slot id ps s) := by
  induction ps generalizing s with
  | nil => exact onlyEntries_refl s
  | cons p ps ih => exact onlyEntries_trans (doseAt_onlyEntries slot id p s) (ih _)

end onlyEntries

/-! ### Casts at positions -/

theorem position_of_castAt {s : State} {p : Nat} {c : CastPart} (h : s.castAt p = some c) : 1 ≤ p ∧ p ≤ 288 := by
  unfold State.castAt State.entry at h
  cases p with
  | zero => cases h
  | succ k =>
    by_cases hk : k < 288
    · omega
    · rw [at1, Vector.getElem?_eq_none (Nat.le_of_not_lt hk)] at h
      cases h

theorem writeEntry_castAt {s : State} {p : Nat} (e : Entry) (h : 1 ≤ p ∧ p ≤ 288) : (writeEntry p e s).castAt p = e.cast? :=
  congrArg Entry.cast? (at1_put1_same _ _ _ _ h)

theorem writeEntry_castAt_other {s : State} {p q : Nat} (e : Entry) (h : q ≠ p) : (writeEntry p e s).castAt q = s.castAt q :=
  congrArg Entry.cast? (at1_put1_other _ _ _ _ _ h)

theorem raise_castAt (n : Notice) (s : State) (p : Nat) : (raise n s).castAt p = s.castAt p := by
  rw [State.castAt, State.entry, raise_store]
  rfl

theorem putCast_castAt {s : State} {p : Nat} {old : CastPart} (new : CastPart) (h : s.castAt p = some old) :
    (putCast p new s).castAt p = some new := by
  unfold putCast
  rw [h]
  dsimp only
  split
  · next he => rw [h, he]
  · exact writeEntry_castAt _ (position_of_castAt h)

theorem putCast_castAt_other {s : State} {p q : Nat} (new : CastPart) (h : q ≠ p) :
    (putCast p new s).castAt q = s.castAt q := by
  unfold putCast
  split
  · split
    · rfl
    · exact writeEntry_castAt_other _ h
  · rfl

theorem updateCast_some {s : State} {p : Nat} {c : CastPart} (f : CastPart → CastPart) (h : s.castAt p = some c) :
    updateCast p f s = putCast p (f c) s := by
  unfold updateCast
  rw [h]

theorem evaluateAt_castAt {s : State} {p : Nat} {c : CastPart} (h : s.castAt p = some c) :
    (evaluateAt p s).castAt p = some (evaluateCast (s.cls c.cls) s.clock c) := by
  unfold evaluateAt
  rw [h]
  dsimp only
  split
  · exact putCast_castAt _ h
  · rw [raise_castAt]
    exact putCast_castAt _ h

theorem evaluateAt_castAt_other {s : State} {p q : Nat} (h : q ≠ p) : (evaluateAt p s).castAt q = s.castAt q := by
  unfold evaluateAt
  split
  · rfl
  · dsimp only
    split
    · exact putCast_castAt_other _ h
    · rw [raise_castAt]
      exact putCast_castAt_other _ h

/-! ### The cause DOSE (R73) -/

/-- R73: what the dose deviation of a batch makes of a cast. -/
def deviatedCast (slot id : Nat) (s : State) (c : CastPart) : CastPart :=
  let new := { c with causes := { c.causes with dose := true } }
  if c.slot = slot ∧ c.batch = id ∧ c.flags.assessed = false then
    if c.state.credited then evaluateCast (s.cls c.cls) s.clock new else new
  else c

theorem deviatedCast_other {slot id : Nat} {s : State} {c : CastPart}
    (h : c.slot ≠ slot ∨ c.batch ≠ id ∨ c.flags.assessed = true) : deviatedCast slot id s c = c := by
  refine if_neg fun ⟨hslot, hid, hopen⟩ => ?_
  obtain h | h | h := h
  · exact h hslot
  · exact h hid
  · rw [h] at hopen
    cases hopen

theorem deviatedCast_open {slot id : Nat} {s : State} {c : CastPart} (hslot : c.slot = slot) (hid : c.batch = id)
    (hopen : c.flags.assessed = false) :
    deviatedCast slot id s c =
      if c.state.credited then evaluateCast (s.cls c.cls) s.clock { c with causes := { c.causes with dose := true } }
      else { c with causes := { c.causes with dose := true } } := if_pos ⟨hslot, hid, hopen⟩

theorem deviatedCast_congr {s t : State} (h : OnlyEntries s t) (slot id : Nat) (c : CastPart) :
    deviatedCast slot id t c = deviatedCast slot id s c := by
  have hcls : t.cls c.cls = s.cls c.cls := by
    unfold State.cls
    rw [h]
  have hclock : t.clock = s.clock := by rw [h]
  unfold deviatedCast
  rw [hcls, hclock]

theorem doseAt_castAt (slot id p : Nat) (s : State) :
    (doseAt slot id p s).castAt p = (s.castAt p).map (deviatedCast slot id s) := by
  unfold doseAt
  cases hc : s.castAt p with
  | none => exact hc
  | some c =>
    have hnew := putCast_castAt { c with causes := { c.causes with dose := true } } hc
    have hu := updateCast_some (fun c => { c with causes := { c.causes with dose := true } }) hc
    dsimp only [Option.map_some, deviatedCast]
    split
    · split
      · rw [hu, evaluateAt_castAt hnew]
        have hk := putCast_onlyEntries p { c with causes := { c.causes with dose := true } } s
        rw [hk]
        rfl
      · rw [hu, hnew]
    · exact hc

theorem doseAt_castAt_other (slot id : Nat) {p q : Nat} (s : State) (h : q ≠ p) :
    (doseAt slot id p s).castAt q = s.castAt q := by
  have hu : ∀ f, (updateCast p f s).castAt q = s.castAt q := by
    intro f
    unfold updateCast
    split
    · exact putCast_castAt_other _ h
    · rfl
  unfold doseAt
  split
  · rfl
  · split
    · dsimp only
      split
      · exact (evaluateAt_castAt_other h).trans (hu _)
      · exact hu _
    · rfl

theorem doseAll_castAt_other (slot id : Nat) {ps : List Nat} {q : Nat} (s : State) (h : q ∉ ps) :
    (doseAll slot id ps s).castAt q = s.castAt q := by
  induction ps generalizing s with
  | nil => rfl
  | cons p ps ih =>
    rw [List.mem_cons, not_or] at h
    exact (ih _ h.2).trans (doseAt_castAt_other slot id s h.1)

/-- Each position is gone through once, with the class and the clock as they were. -/
theorem doseAll_castAt (slot id : Nat) {ps : List Nat} {q : Nat} (s : State) (hn : ps.Nodup) (h : q ∈ ps) :
    (doseAll slot id ps s).castAt q = (s.castAt q).map (deviatedCast slot id s) := by
  induction ps generalizing s with
  | nil => cases h
  | cons p ps ih =>
    obtain ⟨hp, hn⟩ := List.nodup_cons.1 hn
    rcases List.mem_cons.1 h with rfl | h
    · exact (doseAll_castAt_other slot id _ hp).trans (doseAt_castAt slot id q s)
    · have hne : q ≠ p := fun he => hp (he ▸ h)
      refine (ih (doseAt slot id p s) hn h).trans ?_
      rw [doseAt_castAt_other slot id s hne, funext (deviatedCast_congr (doseAt_onlyEntries slot id p s) slot id)]

/-- R73, R147: a credited cast with the cause DOSE is HELD by its evaluation. -/
theorem evaluateCast_held {c : CastPart} (k : Option ClassRecord) (clock : Nat) (hs : c.state.credited = true)
    (hd : c.causes.dose = true) : (evaluateCast k clock c).state = .held := by
  have hany : (addCauses k c).any = true := by
    cases k <;> simp [addCauses, CastCauses.any, hd]
  have hplaced : (evaluatePlaced k clock c).state = .held := by
    unfold evaluatePlaced
    cases k with
    | none => rfl
    | some k => simp only [hany, if_true]
  have hreleasable : (evaluateReleasable k c).state = .held := by
    unfold evaluateReleasable
    cases k with
    | none => rfl
    | some k => simp [CastCauses.any, hd]
  unfold evaluateCast
  cases hc : c.state with
  | curing => exact hplaced
  | overdue => exact hplaced
  | held => exact hplaced
  | releasable => exact hreleasable
  | transit => rw [hc] at hs; cases hs
  | strayed => rw [hc] at hs; cases hs

/-! ### The state in which the stage is entered -/

section deviated

variable (m : Mixer) (h : HoldRecord) (s : State)

/-- The mixer of a resume with its hold record cleared. -/
def unheld : State := withSeq m (fun q => { q with hold := none, blocked := false }) s

theorem batchOf_unheld : batchOf m (unheld m s) = batchOf m s := batchOf_withSeq m _ s rfl

theorem deviated_other (hc : h.cause ≠ .overdose) : deviated m h s = unheld m s := if_neg hc

theorem deviated_overdose (hc : h.cause = .overdose) : deviated m h s = setDeviation m (unheld m s) := if_pos hc

/-- The mixer's batch record with its dose-deviation flag set. -/
def flagged (m : Mixer) (s : State) : State := updateOwnBatch m (fun r => { r with doseDeviation := true }) s

theorem setDeviation_some {slot : Nat} {r : BatchRecord} {s : State} (hb : batchOf m s = some (slot, r)) :
    setDeviation m s = doseAll slot r.id allPositions (flagged m s) := by
  unfold setDeviation flagged updateOwnBatch
  rw [hb]
  rfl

theorem setDeviation_onlyEntries : OnlyEntries (flagged m s) (setDeviation m s) := by
  cases hb : batchOf m s with
  | none =>
    unfold setDeviation flagged
    rw [updateOwnBatch_none _ hb, hb]
    exact onlyEntries_refl s
  | some x =>
    rw [setDeviation_some m hb]
    exact doseAll_onlyEntries _ _ _ _

/-- What a resume leaves as it was until the stage is entered: of the mixers all but the hold record and the marker of a
blocked mixer, and the stations, the scale and the times. -/
theorem deviated_frame :
    (deviated m h s).mixers = (unheld m s).mixers ∧ (deviated m h s).stations = s.stations ∧
    (deviated m h s).arbiter = s.arbiter ∧ (deviated m h s).transit = s.transit ∧
    (deviated m h s).spaceList = s.spaceList ∧ (deviated m h s).orders = s.orders ∧
    (deviated m h s).oscillator = s.oscillator ∧ (deviated m h s).clock = s.clock ∧
    (deviated m h s).store.classes = s.store.classes := by
  by_cases hc : h.cause = .overdose
  · rw [deviated_overdose m h s hc, setDeviation_onlyEntries m (unheld m s), flagged, updateOwnBatch_eq]
    exact ⟨rfl, rfl, rfl, rfl, rfl, rfl, rfl, rfl, rfl⟩
  · rw [deviated_other m h s hc]
    exact ⟨rfl, rfl, rfl, rfl, rfl, rfl, rfl, rfl, rfl⟩

theorem deviated_seq : (deviated m h s).seq m = { s.seq m with hold := none, blocked := false } := by
  rw [State.seq, (deviated_frame m h s).1]
  exact withSeq_seq m _ s

theorem deviated_station (k : Mixer) : (deviated m h s).station k = s.station k := by
  obtain ⟨-, hst, -⟩ := deviated_frame m h s
  rw [State.station, hst]
  rfl

/-- R73: the batch of a resumed mixer is as it was, but for its dose-deviation flag. -/
theorem batchOf_deviated :
    batchOf m (deviated m h s) =
      (batchOf m s).map fun x =>
        (x.1, { x.2 with doseDeviation := x.2.doseDeviation || decide (h.cause = .overdose) }) := by
  by_cases hc : h.cause = .overdose
  · have hf : batchOf m (flagged m (unheld m s)) = (batchOf m s).map fun x => (x.1, { x.2 with doseDeviation := true }) := by
      rw [flagged, batchOf_updateOwnBatch m (fun r => { r with doseDeviation := true }) (unheld m s) (fun _ => rfl),
        batchOf_unheld]
    rw [deviated_overdose m h s hc, onlyEntries_batchOf (setDeviation_onlyEntries m (unheld m s)), hf]
    simp [hc]
  · rw [deviated_other m h s hc, batchOf_unheld]
    simp [hc]

theorem deviated_sameBatch : SameBatch m s (deviated m h s) :=
  .ofMap (f := fun r => { r with doseDeviation := r.doseDeviation || decide (h.cause = .overdose) })
    (batchOf_deviated m h s) (deviated_frame m h s).2.2.2.2.2.2.2.2 fun _ => ⟨rfl, rfl, rfl, rfl, rfl⟩

theorem deviated_contents : contents m (deviated m h s) = contents m s := by
  rw [contents_eq, contents_eq, batchOf_deviated, Option.map_map, deviated_seq]
  rfl

theorem deviated_castAt_other (hc : h.cause ≠ .overdose) (p : Nat) : (deviated m h s).castAt p = s.castAt p := by
  rw [deviated_other m h s hc]
  rfl

/-- R73: every cast of the batch that is not assessed takes the cause DOSE. -/
theorem deviated_castAt {slot : Nat} {r : BatchRecord} {p : Nat} {c : CastPart} (hc : h.cause = .overdose)
    (hb : batchOf m s = some (slot, r)) (hp : s.castAt p = some c) :
    (deviated m h s).castAt p = some (deviatedCast slot r.id s c) := by
  have hf : flagged m (unheld m s) = writeBatch slot (some { r with doseDeviation := true }) (unheld m s) :=
    updateOwnBatch_some _ ((batchOf_unheld m s).trans hb)
  have hcast : (flagged m (unheld m s)).castAt p = some c := by rw [hf]; exact hp
  have hmem : p ∈ allPositions := by
    obtain ⟨hlow, hup⟩ := position_of_castAt hp
    rw [allPositions, List.mem_range'_1]
    omega
  have hnodup : allPositions.Nodup := List.nodup_range'
  rw [deviated_overdose m h s hc, setDeviation_some m ((batchOf_unheld m s).trans hb),
    doseAll_castAt _ _ _ hnodup hmem, hcast, hf]
  rfl

end deviated

end Sys2Proof.Proofs
end

section
/-! PROOF. The stage that a resume enters with the overload input clear (R70 to R72). -/

namespace Sys2Proof.Proofs

open Sys2Proof.Machine

/-! ### The overload input at a resume (R53, R70) -/

section overload

variable {m : Mixer} {s : State} (h : HoldRecord)

theorem resume_clear (ho : (s.seq m).overloadInput = false) : resume m h s = resumeStage m h (deviated m h s) := by
  rw [resume_eq, deviated_seq]
  exact if_neg (by simp [ho])

theorem resume_asserted (ho : (s.seq m).overloadInput = true) : resume m h s = holdAgain m h (deviated m h s) := by
  rw [resume_eq, deviated_seq]
  exact if_pos ho

end overload

/-! ### The component in course (R71) -/

/-- The components charged straight into the drum: stage, channel, and the tolerance above the target in thousandths. -/
def Doses (st : Stage) (c : Component) (ch : Channel) (tolerance : Nat) : Prop :=
  (st, c, ch, tolerance) ∈
    [(Stage.ash, Component.ash, Channel.ash, 10), (.liquids, .chelant, .chelant, 50), (.liquids, .water, .water, 15)]

theorem doses_cases {st : Stage} {c : Component} {ch : Channel} {tolerance : Nat} (hd : Doses st c ch tolerance) :
    (st = .ash ∧ c = .ash ∧ ch = .ash ∧ tolerance = 10) ∨
    (st = .liquids ∧ c = .chelant ∧ ch = .chelant ∧ tolerance = 50) ∨
    (st = .liquids ∧ c = .water ∧ ch = .water ∧ tolerance = 15) := by
  simpa [Doses] using hd

theorem stage_of_chelant {st : Stage} {ch : Channel} {tolerance : Nat} (hd : Doses st .chelant ch tolerance) :
    st = .liquids := by
  obtain ⟨-, hc, -⟩ | ⟨hst, -⟩ | ⟨-, hc, -⟩ := doses_cases hd
  · cases hc
  · exact hst
  · cases hc

/-- R41: a total that reaches the target is above the band or within it. -/
theorem judge_above_iff {c : Component} {target total : Nat} (h : target ≤ total) :
    judge c target total = .above ↔ upperLimit c target < total := by
  have hl : ¬ total < lowerLimit c target := Nat.not_lt.2 (Nat.le_trans (Nat.sub_le ..) h)
  rw [judge, if_neg hl]
  split
  · next hu => exact iff_of_true rfl hu
  · next hu => exact iff_of_false nofun hu

section inCourse

variable {m : Mixer} {h : HoldRecord} {st : Stage} {c : Component} {ch : Channel} {tolerance : Nat} {u : State}

theorem channelLimit_of_doses (hd : Doses st c ch tolerance) :
    channelLimit ch = some (if st = .ash then 300 else 120) := by
  obtain ⟨rfl, -, rfl, -⟩ | ⟨rfl, -, rfl, -⟩ | ⟨rfl, -, rfl, -⟩ := doses_cases hd
  · rfl
  · rfl
  · rfl

theorem upperLimit_of_doses (hd : Doses st c ch tolerance) (target : Nat) :
    upperLimit c target = target + target * tolerance / 1000 := by
  obtain ⟨-, rfl, -, rfl⟩ | ⟨-, rfl, -, rfl⟩ | ⟨-, rfl, -, rfl⟩ := doses_cases hd
  · rfl
  · rfl
  · rfl

/-- R71: an excused component is one held for its overdose. -/
abbrev Excused (h : HoldRecord) (c : Component) : Prop := h.cause = .overdose ∧ h.component = some c

variable (hd : Doses st c ch tolerance) (hst : h.stage = st) (hc : (u.seq m).component = some c)
include hd hst hc

theorem resumeStage_inCourse : resumeStage m h u = continueDose m ch c h (inStage m .charging st u) := by
  unfold resumeStage
  rw [hst, hc]
  obtain ⟨rfl, rfl, rfl, -⟩ | ⟨rfl, rfl, rfl, -⟩ | ⟨rfl, rfl, rfl, -⟩ := doses_cases hd
  · rfl
  · rfl
  · rfl

/-- R71: the rest of the component is charged. -/
theorem resumeStage_short (hlt : (u.seq m).dosed < targetOf m c u) :
    resumeStage m h u = deliver m ch (targetOf m c u - (u.seq m).dosed) (inStage m .charging st u) := by
  have ht := (inStage_sameBatch m .charging st u).target c
  rw [resumeStage_inCourse hd hst hc]
  unfold continueDose
  rw [ht, inStage_seq]
  exact if_pos hlt

theorem resumeStage_complete (hle : targetOf m c u ≤ (u.seq m).dosed) :
    resumeStage m h u =
      if upperLimit c (targetOf m c u) < (u.seq m).dosed ∧ ¬ Excused h c then
        raiseHold m .overdose (some c) (inStage m .charging st u)
      else accept m c (inStage m .charging st u) := by
  have ht := (inStage_sameBatch m .charging st u).target c
  rw [resumeStage_inCourse hd hst hc]
  unfold continueDose
  rw [ht, inStage_seq]
  refine (if_neg (Nat.not_lt.2 hle)).trans ?_
  simp only [judge_above_iff hle]

/-- R71: a component above its band holds the mixer again at once. -/
theorem resumeStage_overdosed (hle : targetOf m c u ≤ (u.seq m).dosed)
    (ha : targetOf m c u + targetOf m c u * tolerance / 1000 < (u.seq m).dosed) (he : ¬ Excused h c) :
    resumeStage m h u = raiseHold m .overdose (some c) (inStage m .charging st u) := by
  rw [resumeStage_complete hd hst hc hle, upperLimit_of_doses hd]
  exact if_pos ⟨ha, he⟩

/-- R71: a component that has reached its target is accepted. -/
theorem resumeStage_accepts (hle : targetOf m c u ≤ (u.seq m).dosed)
    (hor : ¬ targetOf m c u + targetOf m c u * tolerance / 1000 < (u.seq m).dosed ∨ Excused h c) :
    resumeStage m h u = accept m c (inStage m .charging st u) := by
  rw [resumeStage_complete hd hst hc hle, upperLimit_of_doses hd]
  refine if_neg fun hn => ?_
  exact hor.elim (fun ha => ha hn.1) hn.2

end inCourse

/-! ### What an accepted component leads to (R43, R49, R57) -/

section accepted

variable {m : Mixer} {s : State}

theorem accept_ash_stepped (h : stepped m s = true) : accept m .ash s = stepWait m .ash (.stage .cement) (componentDone m s) :=
  (accept_ash m s).trans (if_pos h)

theorem accept_ash_unstepped (h : stepped m s = false) : accept m .ash s = enterCement m (componentDone m s) :=
  (accept_ash m s).trans (if_neg (Bool.eq_false_iff.1 h))

theorem accept_water (m : Mixer) (s : State) : accept m .water s = afterLiquids m (componentDone m s) := rfl

end accepted

/-! ### CEMENT (R45, R72) -/

section cement

variable {m : Mixer} {h : HoldRecord} {s u : State}

/-- R45: the scale is another mixer's, and the mixer waits behind the others. -/
theorem requestScale_waits {k : Mixer} (hh : s.arbiter.holder = some k) (hk : k ≠ m) (hw : m ∉ s.arbiter.waiting) :
    requestScale m s = { s with arbiter := { s.arbiter with waiting := s.arbiter.waiting ++ [m] } } := by
  unfold requestScale
  rw [hh]
  exact if_neg (by simp [hk, hw])

theorem otherMixer_ne (m : Mixer) : otherMixer m ≠ m := by
  cases m with
  | a => exact nofun
  | b => exact nofun

/-- R72: the cement mark of a top-up is cleared. -/
def topUpCleared (m : Mixer) (s : State) : State := withSeq m (fun q => { q with topUp := false }) s

theorem topUpCleared_seq (m : Mixer) (s : State) : (topUpCleared m s).seq m = { s.seq m with topUp := false } :=
  withSeq_seq m _ s

theorem resumeStage_cement (hst : h.stage = .cement) : resumeStage m h u = enterCement m (topUpCleared m u) := by
  unfold resumeStage
  rw [hst]
  rfl

theorem requestScale_stage (m : Mixer) (s : State) :
    ((requestScale m s).seq m).state = (s.seq m).state ∧ ((requestScale m s).seq m).stage = (s.seq m).stage := by
  unfold requestScale
  split
  · rw [grant_seq]
    exact ⟨rfl, rfl⟩
  · split
    · exact ⟨rfl, rfl⟩
    · exact ⟨rfl, rfl⟩

theorem enterCement_stage (m : Mixer) (s : State) : ((enterCement m s).seq m).stage = some .cement := by
  refine (requestScale_stage m (inStage m .charging .cement s)).2.trans ?_
  rw [inStage_seq]

theorem enterCement_free_marker {b : BatchRef} (hh : s.arbiter.holder = none) (hb : (s.seq m).batch = some b) :
    (enterCement m s).marker m = some { slot := b.slot, batch := b.id, stage := .cement } := by
  rw [enterCement_free hh, grant_eq]
  exact inStage_marker .charging .cement hb

theorem enterCement_waits {k : Mixer} (hh : s.arbiter.holder = some k) (hk : k ≠ m) (hw : m ∉ s.arbiter.waiting) :
    enterCement m s =
      { inStage m .charging .cement s with arbiter := { s.arbiter with waiting := s.arbiter.waiting ++ [m] } } := by
  have hi : (inStage m .charging .cement s).arbiter = s.arbiter := inStage_arbiter m .charging .cement s
  rw [← hi]
  exact requestScale_waits (s := inStage m .charging .cement s) (by rw [hi]; exact hh) hk (by rw [hi]; exact hw)

/-- R47, R72: the weighing of the cement still missing. -/
theorem weighing_resumed (m : Mixer) (s : State) :
    weighing m (inStage m .charging .cement (topUpCleared m s)) =
      { s.seq m with
        state := .charging, stage := some .cement, saved := none, topUp := false, component := some .cement
        dosed := if (s.seq m).component = some .cement then (s.seq m).dosed else 0
        delivery := some
          { channel := .weighing, amount := targetOf m .cement s - (s.seq m).cementInDrum
            limit := some (s.oscillator + 180) } } := by
  have ht : targetOf m .cement (inStage m .charging .cement (topUpCleared m s)) = targetOf m .cement s :=
    ((SameBatch.withSeq _ rfl).trans (inStage_sameBatch m .charging .cement _)).target .cement
  have ho : (inStage m .charging .cement (topUpCleared m s)).oscillator = s.oscillator := inStage_oscillator m _ _ _
  rw [weighing, inStage_seq, topUpCleared_seq, ht, ho]
  by_cases hc : (s.seq m).component = some .cement
  · simp [hc]
  · simp [hc]

end cement

/-! ### The stages begun again (R71, R72) -/

section begun

variable {m : Mixer} {h : HoldRecord} {u : State}

theorem resumeStage_ash (hst : h.stage = .ash) (hc : (u.seq m).component ≠ some .ash) : resumeStage m h u = enterAsh m u := by
  unfold resumeStage
  rw [hst]
  cases hq : (u.seq m).component with
  | none => rfl
  | some c =>
    cases c with
    | ash => exact absurd hq hc
    | cement => rfl
    | chelant => rfl
    | water => rfl

theorem resumeStage_liquids (hst : h.stage = .liquids) (hc : (u.seq m).component ≠ some .chelant)
    (hw : (u.seq m).component ≠ some .water) : resumeStage m h u = enterLiquids m u := by
  unfold resumeStage
  rw [hst]
  cases hq : (u.seq m).component with
  | none => rfl
  | some c =>
    cases c with
    | ash => rfl
    | cement => rfl
    | chelant => exact absurd hq hc
    | water => exact absurd hq hw

theorem resumeStage_mix (hst : h.stage = .mix) : resumeStage m h u = enterMix m u := by
  unfold resumeStage
  rw [hst]
  rfl

end begun

/-! ### POUR (R55, R56, R72) -/

section pour

variable {m : Mixer} {h : HoldRecord} {s u : State}

/-- R72: the station with its consecutive-unreadable count 0. -/
def unreadableCleared (m : Mixer) (s : State) : State := withStation m (fun x => { x with unreadable := 0 }) s

theorem unreadableCleared_station (m : Mixer) (s : State) :
    (unreadableCleared m s).station m = { s.station m with unreadable := 0 } := withStation_station m _ s

theorem unreadableCleared_sameBatch (m : Mixer) (s : State) : SameBatch m s (unreadableCleared m s) := .ofEq rfl rfl

theorem resumeStage_pour (hst : h.stage = .pour) : resumeStage m h u = enterPour m (unreadableCleared m u) := by
  unfold resumeStage
  rw [hst]
  rfl

theorem unreadableCleared_canPour (hp : CanPour m s) : CanPour m (unreadableCleared m s) where
  left := hp.left
  enough := hp.enough
  unwritten := by rw [unreadableCleared_station]; exact hp.unwritten
  place := (placeFree_withStation m _ s rfl).trans hp.place
  first := hp.first

/-- R56: after the last cast the stage ends at once. -/
theorem enterPour_ends (hp : poured m s = castCount m s) : enterPour m s = pourEnd m (atPour m s) :=
  (enterPour_eq m s).trans (if_pos hp)

theorem pourEnd_stepped (hs : stepped m s = true) : pourEnd m s = stepWait m .pour .batchEnd s := if_pos hs

theorem pourEnd_unstepped (hs : stepped m s = false) : pourEnd m s = finishBatch m s := if_neg (Bool.eq_false_iff.1 hs)

/-- R56: the state once the pot life has been stopped and the batch has ended. -/
def batchEnded (m : Mixer) (s : State) : State :=
  let t := withSeq m (fun q => { q with potLife := .stopped }) s
  match batchOf m s with
  | none => t
  | some (slot, _) => batchEnd slot (if poured m s = castCount m s then .complete else .shortBatch) t

theorem finishBatch_eq (m : Mixer) (s : State) :
    finishBatch m s =
      if 0 < contents m s then enterDischarging m none (contents m s) (batchEnded m s) else enterIdle m (batchEnded m s) := rfl

/-- R59, R75: the mixer emptied and at rest, before the Dispatcher runs. -/
def idled (m : Mixer) (s : State) : State :=
  writeMarker m none (setDrive m .stopped (withStation m (fun x => { x with unreadable := 0 })
    (withSeq m (fun q =>
      { q with
        state := .idle, stage := none, batch := none, component := none, cementInDrum := 0, delivery := none,
        potLife := .notStarted, mixTimer := none, saved := none, pendingHold := none, pendingExpiry := false, hold := none,
        lockout := none, blocked := false, fillsTotal := 0, dischargeCause := none }) s)))

theorem enterIdle_eq (m : Mixer) (s : State) : enterIdle m s = dispatch (idled m s) := rfl

theorem idled_seq (m : Mixer) (s : State) : ((idled m s).seq m).state = .idle ∧ ((idled m s).seq m).stage = none := by
  have hq : (idled m s).seq m = _ := setDrive_seq m .stopped _
  rw [hq, withStation_seq, withSeq_seq]
  exact ⟨rfl, rfl⟩

theorem enterIdle_noOrders (ho : s.orders = []) : enterIdle m s = idled m s :=
  dispatch_empty _ (noOrders_stable.marker m none (setDrive_stable noOrders_stable m .stopped
    (noOrders_stable.station m _ (noOrders_stable.seq m _ ho))))

theorem batchEnded_stable {P : State → Prop} (hP : FloorStable P) (m : Mixer) {t : State} (h : P t) : P (batchEnded m t) := by
  have hs := hP.seq m (fun q => { q with potLife := .stopped }) h
  unfold batchEnded
  dsimp only
  split
  · exact hs
  · exact batchEnd_stable hP _ _ hs

/-- R56 (3): the contents reckoned before the batch end decide between DISCHARGING and IDLE. -/
theorem finishBatch_state (ho : s.orders = []) :
    ((finishBatch m s).seq m).state = if 0 < contents m s then .discharging else .idle := by
  rw [finishBatch_eq]
  split
  · rw [enterDischarging_seq]
  · rw [enterIdle_noOrders (batchEnded_stable noOrders_stable m ho), (idled_seq m _).1]

end pour

end Sys2Proof.Proofs
end

section
/-! PROOF. The Dispatcher and the end of a POUR (R24, R27, R56): a mixer that they leave stands in no POUR. -/

namespace Sys2Proof.Proofs

open Sys2Proof.Machine

/-! ### The start of an order (R27) -/

section started

variable {m k : Mixer} {s : State}

theorem inStage_mixers (k : Mixer) (state : MixerState) (st : Stage) (s : State) :
    (inStage k state st s).mixers = s.mixers.put k { s.seq k with state := state, stage := some st, saved := none } := by
  rw [inStage, markStage_eq]
  rfl

theorem enterAsh_eq (k : Mixer) (s : State) :
    enterAsh k s =
      deliver k .ash (targetOf k .ash s) (setDrive k .agitate (beginComponent k .ash (inStage k .charging .ash s))) := rfl

theorem enterAsh_seq (k : Mixer) (s : State) :
    (enterAsh k s).seq k =
      { s.seq k with
        state := .charging, stage := some .ash, saved := none, component := some .ash, dosed := 0, topUp := false
        drive := .agitate
        delivery := some { channel := .ash, amount := targetOf k .ash s, limit := some (s.oscillator + 300) } } := by
  rw [enterAsh_eq, deliver_seq, setDrive_seq, beginComponent_seq, inStage_seq]
  simp [beginComponent, channelLimit, Config.ashLimit]

theorem enterAsh_seq_other (h : m ≠ k) : (enterAsh k s).seq m = s.seq m := by
  have hi : (inStage k .charging .ash s).seq m = s.seq m := by
    rw [State.seq, inStage_mixers]
    exact get_put_other _ _ _ _ h
  rw [enterAsh_eq, deliver, withSeq_seq_other _ _ h, emit_seq, State.seq, setDrive_mixers]
  exact (get_put_other _ _ _ _ h).trans ((withSeq_seq_other _ _ h).trans hi)

/-- R27 (5): of the mixers a start changes the one it gives the batch, which enters ASH. -/
theorem startOrder_stage (o : Order) (slot : Nat) (ps : List Nat) (h : (s.seq m).stage ≠ some .pour) :
    ((startOrder o k slot ps s).seq m).stage ≠ some .pour := by
  have hbooked : ∀ (l : List Nat) (t : State), (l.foldl (fun u b => bayBooked b u) t).mixers = t.mixers := fun l t =>
    foldl_keeps (P := fun u => u.mixers = t.mixers) l _ (fun b _ hu => bayBooked_stable (mixers_stable t) b hu) rfl
  have hreserved : ∀ (l : List Nat) (slot id : Nat) (t : State),
      (l.foldl (fun u p => writeEntry p (.reserved slot id) u) t).mixers = t.mixers := fun l slot id t =>
    foldl_keeps (P := fun u => u.mixers = t.mixers) l (fun u p => writeEntry p (.reserved slot id) u) (fun _ _ hu => hu) rfl
  unfold startOrder
  rw [raise_seq, giveBatch]
  by_cases hk : m = k
  · subst hk
    rw [enterAsh_seq]
    exact nofun
  · rw [enterAsh_seq_other hk, withSeq_seq_other _ _ hk, State.seq, hbooked, hreserved]
    exact h

end started

theorem scans_stage {m : Mixer} (n : Nat) {s : State} (h : (s.seq m).stage ≠ some .pour) :
    ((scans n s).seq m).stage ≠ some .pour := by
  induction n generalizing s with
  | zero => exact h
  | succ n ih =>
    unfold scans
    split
    · exact h
    · exact ih (startOrder_stage _ _ _ h)

theorem dispatch_stage {m : Mixer} {s : State} (h : (s.seq m).stage ≠ some .pour) :
    ((dispatch s).seq m).stage ≠ some .pour := scans_stage _ h

/-! ### The end of a POUR (R56) -/

section pourEnd

variable {m : Mixer} {s : State}

theorem enterIdle_leaves : ((enterIdle m s).seq m).stage ≠ some .pour := by
  rw [enterIdle_eq]
  refine dispatch_stage ?_
  rw [(idled_seq m s).2]
  exact nofun

theorem finishBatch_leaves : ((finishBatch m s).seq m).stage ≠ some .pour := by
  rw [finishBatch_eq]
  split
  · rw [enterDischarging_seq]
    exact nofun
  · exact enterIdle_leaves

theorem pourEnd_leaves : ((pourEnd m s).seq m).stage ≠ some .pour := by
  unfold pourEnd
  split
  · rw [stepWait_seq]
    exact nofun
  · exact finishBatch_leaves

/-- R79: a cycle to come with its cast. -/
def castBegun (m : Mixer) (s : State) : State := withStation m (fun x => { x with castIndex := some (poured m s + 1) }) s

theorem castBegun_station (m : Mixer) (s : State) :
    (castBegun m s).station m = { s.station m with castIndex := some (poured m s + 1) } := withStation_station m _ s

/-- A mixer that stays in POUR waits for its tag write or for a place. -/
theorem enterPour_stays (h : ((enterPour m s).seq m).stage = some .pour) :
    enterPour m s = atPour m s ∨ enterPour m s = enterSpace m (castBegun m (atPour m s)) := by
  rw [enterPour_eq] at h ⊢
  split
  · next hp =>
    rw [if_pos hp] at h
    exact absurd h pourEnd_leaves
  · next hp =>
    rw [if_neg hp] at h
    unfold beginCycle at h ⊢
    split
    · exact .inl rfl
    · next hw =>
      rw [if_neg hw] at h
      split
      · next hc =>
        rw [if_pos hc] at h
        exact absurd h pourEnd_leaves
      · exact .inr rfl

/-- R80: what the wait for a place leaves as it is. -/
theorem enterSpace_keeps (m : Mixer) (s : State) :
    (enterSpace m s).seq m = s.seq m ∧ ((enterSpace m s).station m).fill = (s.station m).fill ∧
    ((enterSpace m s).station m).unreadable = (s.station m).unreadable ∧ (enterSpace m s).store = s.store ∧
    (enterSpace m s).clock = s.clock := by
  unfold enterSpace
  split
  · rw [givePlace_station]
    exact ⟨rfl, rfl, rfl, rfl, rfl⟩
  · rw [withStation_station]
    exact ⟨rfl, rfl, rfl, rfl, rfl⟩

end pourEnd

end Sys2Proof.Proofs
end

section
/-! PROOF. The hold of a resumed mixer whose overload input stands asserted (R53, R70): the state in which the look comes, and the hold launched from it. -/

namespace Sys2Proof.Proofs

open Sys2Proof.Machine

/-! ### The mixer at the look (R53) -/

/-- The mixer runs in a stage, with nothing in flight and no reject discharge; its batch is that of `u`. -/
structure StandsIn (m : Mixer) (st : Stage) (u v : State) : Prop where
  runs : holdable (v.seq m).state = true
  pouring : st = .pour → (v.seq m).state = .pouring
  stage : (v.seq m).stage = some st
  saved : (v.seq m).saved = none
  fill : (v.station m).fill = none
  channel : ∀ d, (v.seq m).delivery = some d → d.channel ≠ .discharge ∧ d.channel ≠ .reject
  poured : poured m v = poured m u
  clock : v.clock = u.clock
  marker : ∀ b, (u.seq m).batch = some b → v.marker m = some { slot := b.slot, batch := b.id, stage := st }

/-- What a mixer held with a cause in a stage is. -/
structure HeldWith (m : Mixer) (cause : HoldCause) (component : Option Component) (st : Stage) (u t : State) : Prop where
  state : (t.seq m).state = .held
  blocked : (t.seq m).blocked = true
  delivery : (t.seq m).delivery = none
  mixTimer : (t.seq m).mixTimer = none
  hold : (t.seq m).hold = some
    { cause := cause, component := component, stage := st, dosed := component.map fun _ => (t.seq m).dosed
      poured := poured m u, time := u.clock }

namespace StandsIn

variable {m : Mixer} {st : Stage} {u v w : State}

/-- An update that leaves the stage, the marker and the batch. -/
theorem update (h : StandsIn m st u v) (hstate : (w.seq m).state = (v.seq m).state)
    (hstage : (w.seq m).stage = (v.seq m).stage) (hsaved : (w.seq m).saved = (v.seq m).saved)
    (hch : ∀ d, (w.seq m).delivery = some d → d.channel ≠ .discharge ∧ d.channel ≠ .reject)
    (hfill : (w.station m).fill = (v.station m).fill) (hb : SameBatch m v w) (hclock : w.clock = v.clock)
    (hmarkers : w.store.markers = v.store.markers) : StandsIn m st u w where
  runs := hstate ▸ h.runs
  pouring hp := hstate.trans (h.pouring hp)
  stage := hstage.trans h.stage
  saved := hsaved.trans h.saved
  fill := hfill.trans h.fill
  channel := hch
  poured := hb.poured.trans h.poured
  clock := hclock.trans h.clock
  marker b hq := by
    rw [← h.marker b hq, State.marker, State.marker, hmarkers]

/-- An update of the sequencer. -/
theorem withSeq (h : StandsIn m st u v) (f : Sequencer → Sequencer) (hstate : (f (v.seq m)).state = (v.seq m).state)
    (hstage : (f (v.seq m)).stage = (v.seq m).stage) (hsaved : (f (v.seq m)).saved = (v.seq m).saved)
    (hbatch : (f (v.seq m)).batch = (v.seq m).batch)
    (hch : ∀ d, (f (v.seq m)).delivery = some d → d.channel ≠ .discharge ∧ d.channel ≠ .reject) :
    StandsIn m st u (Machine.withSeq m f v) := by
  have hq := withSeq_seq m f v
  exact h.update (by rw [hq, hstate]) (by rw [hq, hstage]) (by rw [hq, hsaved]) (by rw [hq]; exact hch) rfl
    (.withSeq f hbatch) rfl rfl

theorem deliver (h : StandsIn m st u v) (ch : Channel) (amount : Nat) (hch : ch ≠ .discharge ∧ ch ≠ .reject) :
    StandsIn m st u (Machine.deliver m ch amount v) := by
  refine (h.update (w := emit (.deliver m ch amount) v) rfl rfl rfl h.channel rfl (.ofEq rfl rfl) rfl rfl).withSeq _ rfl rfl rfl
    rfl fun d hd => ?_
  cases hd
  exact hch

theorem beginComponent (h : StandsIn m st u v) (c : Component) : StandsIn m st u (Machine.beginComponent m c v) :=
  h.withSeq _ rfl rfl rfl rfl h.channel

theorem startPotLife (h : StandsIn m st u v) : StandsIn m st u (Machine.startPotLife m v) := by
  rw [startPotLife_eq]
  exact h.withSeq _ rfl rfl rfl rfl h.channel

theorem setDrive (h : StandsIn m st u v) (d : Drive) : StandsIn m st u (Machine.setDrive m d v) := by
  have hq := setDrive_seq m d v
  exact h.update (by rw [hq]) (by rw [hq]) (by rw [hq]) (by rw [hq]; exact h.channel) (by rw [setDrive_station])
    (.ofEq (by simp) (by simp)) (by simp) (by simp)

theorem writeActual (h : StandsIn m st u v) (c : Component) (x : Nat) : StandsIn m st u (Machine.writeActual m c x v) :=
  h.update (by simp) (by simp) (by simp) (by simpa using h.channel) (by simp) (.writeActual m c x v) (by simp) (by simp)

theorem requestScale (h : StandsIn m st u v) : StandsIn m st u (Machine.requestScale m v) := by
  unfold Machine.requestScale
  split
  · have hq := grant_seq m v.arbiter.waiting v
    have hw := grant_eq m v.arbiter.waiting v
    refine h.update (by rw [hq, weighing]) (by rw [hq, weighing]) (by rw [hq, weighing]) ?_ (by rw [hw]; rfl)
      (.ofEq (batchOf_congr (by rw [hq, weighing]) (by rw [hw])) (by rw [hw])) (by rw [hw]) (by rw [hw])
    rw [hq]
    intro d hd
    cases hd
    exact ⟨nofun, nofun⟩
  · split
    · exact h
    · exact h.update rfl rfl rfl h.channel rfl (.ofEq rfl rfl) rfl rfl

/-- The same batch under another reference. -/
theorem rebase {u' : State} (h : StandsIn m st u' v) (hb : Machine.poured m u' = Machine.poured m u) (hc : u'.clock = u.clock)
    (hq : (u'.seq m).batch = (u.seq m).batch) : StandsIn m st u v where
  runs := h.runs
  pouring := h.pouring
  stage := h.stage
  saved := h.saved
  fill := h.fill
  channel := h.channel
  poured := h.poured.trans hb
  clock := h.clock.trans hc
  marker b hu := h.marker b (hq.trans hu)

/-! ### The hold (R53, R62, R64) -/

section launch

variable (h : StandsIn m st u v) (cause : HoldCause) (named : Option Component)
include h

theorem launches : raiseHold m cause named v = launchHoldAt m cause named st v := by
  rw [raiseHold_launches cause named h.runs (inFlight_eq_false h.fill fun d hd => (h.channel d hd).1), launchStage, h.saved,
    h.stage]
  rfl

/-- R64: the sequencer once held. -/
theorem held_seq :
    ((raiseHold m cause named v).seq m) =
      { (stopDelivery m v).seq m with
        mixTimer := none, hold := some (holdRecord m cause named st (stopDelivery m v)), saved := none, stage := none
        drive := .agitate, blocked := true, pendingHold := none, state := .held } := by
  rw [h.launches, launchHoldAt_seq]

/-- The component of a held mixer is the one in course at the launch. -/
theorem held_component : ((raiseHold m cause named v).seq m).component = (v.seq m).component := by
  obtain ⟨_, _, _, hq⟩ := stopDelivery_seq m v
  rw [h.held_seq, hq]

theorem held_drive : ((raiseHold m cause named v).seq m).drive = .agitate := by rw [h.held_seq]

theorem held_dosed (hd : (v.seq m).delivery = none) : ((raiseHold m cause named v).seq m).dosed = (v.seq m).dosed := by
  rw [h.held_seq, stopDelivery_none hd]

theorem held : HeldWith m cause (holdComponent (v.seq m).component named st) st u (raiseHold m cause named v) := by
  obtain ⟨_, _, _, hstop⟩ := stopDelivery_seq m v
  have hclock : (stopDelivery m v).clock = u.clock := (stopDelivery_frame m v).2.2.2.2.trans h.clock
  have hpoured : Machine.poured m (stopDelivery m v) = Machine.poured m u := (stopDelivery_sameBatch m v).poured.trans h.poured
  have hcomponent : ((stopDelivery m v).seq m).component = (v.seq m).component := by rw [hstop]
  have hq := h.held_seq cause named
  refine ⟨by rw [hq], by rw [hq], ?_, by rw [hq], ?_⟩
  · rw [hq]
    exact stopDelivery_delivery fun d hd => (h.channel d hd).2
  · rw [hq, holdRecord, hclock, hpoured, hcomponent]

theorem held_store : (raiseHold m cause named v).store = (stopDelivery m v).store := by rw [h.launches, launchHoldAt_store]

theorem held_marker {b : BatchRef} (hb : (u.seq m).batch = some b) :
    (raiseHold m cause named v).marker m = some { slot := b.slot, batch := b.id, stage := st } := by
  obtain ⟨-, -, -, hmarkers, -⟩ := stopDelivery_frame m v
  rw [← h.marker b hb, State.marker, State.marker, h.held_store, hmarkers]

/-- R46: a held mixer has no grant. -/
theorem held_holder : (raiseHold m cause named v).arbiter.holder ≠ some m := by
  rw [h.launches]
  exact launchHoldAt_holder m v cause named st

end launch

/-- R66: the station of a mixer held in POUR. -/
theorem held_station (h : StandsIn m .pour u v) (cause : HoldCause) (named : Option Component) :
    ((raiseHold m cause named v).station m).claim = false ∧ ((raiseHold m cause named v).station m).moldCall = none ∧
    ((raiseHold m cause named v).station m).unreadable = (v.station m).unreadable := by
  rw [h.launches, launchHoldAt_station]
  exact halted_station (h.pouring rfl) h.fill

end StandsIn

/-! ### The stages taken and entered (R70 to R72) -/

section stages

variable {m : Mixer} {h : HoldRecord} {u v : State} (hf : (u.station m).fill = none) (hd : (u.seq m).delivery = none)
include hf hd

theorem inStage_standsIn {state : MixerState} {st : Stage} (hs : holdable state = true) (hp : st = .pour → state = .pouring) :
    StandsIn m st u (inStage m state st u) := by
  have hq := inStage_seq m state st u
  exact ⟨by rw [hq]; exact hs, by rw [hq]; exact hp, by rw [hq], by rw [hq], by rw [inStage_station]; exact hf,
    by rw [hq, hd]; exact nofun, (inStage_sameBatch m state st u).poured, inStage_clock m state st u,
    fun b hb => inStage_marker state st hb⟩

theorem takeStage_standsIn {st : Stage} (hst : st ≠ .discharging) : StandsIn m st u (takeStage m st u) := by
  cases st with
  | ash => exact inStage_standsIn hf hd rfl nofun
  | liquids => exact inStage_standsIn hf hd rfl nofun
  | mix => exact inStage_standsIn hf hd rfl nofun
  | discharging => exact absurd rfl hst
  | cement =>
    have hq := topUpCleared_seq m u
    have hs := inStage_standsIn (u := topUpCleared m u) (state := .charging) (st := .cement) hf (by rw [hq]; exact hd) rfl nofun
    exact hs.rebase (SameBatch.withSeq _ rfl).poured rfl (by rw [hq])
  | pour =>
    exact (inStage_standsIn (u := unreadableCleared m u) (by rw [unreadableCleared_station]; exact hf) hd rfl
      fun _ => rfl).rebase rfl rfl rfl

theorem enterCement_standsIn : StandsIn m .cement u (enterCement m u) :=
  (inStage_standsIn hf hd (state := .charging) (st := .cement) rfl nofun).requestScale

theorem enterAsh_standsIn : StandsIn m .ash u (enterAsh m u) := by
  rw [enterAsh_eq]
  have hs := inStage_standsIn hf hd (state := .charging) (st := .ash) rfl nofun
  exact ((hs.beginComponent .ash).setDrive .agitate).deliver .ash _ ⟨nofun, nofun⟩

theorem enterMix_standsIn : StandsIn m .mix u (enterMix m u) := by
  rw [enterMix_eq]
  have hs := (inStage_standsIn hf hd (state := .mixing) (st := .mix) rfl nofun).setDrive .mix
  exact hs.withSeq _ rfl rfl rfl rfl hs.channel

theorem atPour_standsIn : StandsIn m .pour u (atPour m u) := by
  have hs := (inStage_standsIn hf hd (state := .pouring) (st := .pour) rfl fun _ => rfl).setDrive .agitate
  exact hs.withSeq _ rfl rfl rfl rfl hs.channel

theorem enterPour_standsIn (hw : ((enterPour m u).seq m).stage = some .pour) : StandsIn m .pour u (enterPour m u) := by
  have hs := atPour_standsIn hf hd
  obtain he | he := enterPour_stays hw
  · rw [he]
    exact hs
  · obtain ⟨hq, hfill, -, hstore, hclock⟩ := enterSpace_keeps m (castBegun m (atPour m u))
    rw [castBegun_station] at hfill
    rw [he]
    exact hs.update (by rw [hq]; rfl) (by rw [hq]; rfl) (by rw [hq]; rfl) (by rw [hq]; exact hs.channel) hfill
      (.ofEq (batchOf_congr (by rw [hq]; rfl) (by rw [hstore]; rfl)) (by rw [hstore]; rfl)) hclock (by rw [hstore]; rfl)

end stages

/-! ### LIQUIDS (R49) -/

section liquids

variable {m : Mixer} {u v : State}

/-- A mixer whose liquids are complete has left the stage. -/
theorem afterLiquids_leaves (m : Mixer) (s : State) : ((afterLiquids m s).seq m).stage ≠ some .liquids := by
  cases hs : stepped m s with
  | true =>
    rw [afterLiquids_stepped hs]
    exact nofun
  | false =>
    rw [afterLiquids_unstepped hs]
    exact nofun

theorem doseWater_standsIn (h : StandsIn m .liquids u v) (hw : ((doseWater m v).seq m).stage = some .liquids) :
    StandsIn m .liquids u (doseWater m v) := by
  by_cases ht : targetOf m .water v = 0
  · rw [doseWater_zero ht] at hw
    exact absurd hw (afterLiquids_leaves m _)
  · rw [doseWater_eq ht]
    exact (h.beginComponent .water).startPotLife.deliver .water _ ⟨nofun, nofun⟩

theorem enterLiquids_standsIn (hf : (u.station m).fill = none) (hd : (u.seq m).delivery = none)
    (hw : ((enterLiquids m u).seq m).stage = some .liquids) : StandsIn m .liquids u (enterLiquids m u) := by
  have hs := inStage_standsIn hf hd (state := .charging) (st := .liquids) rfl nofun
  by_cases ht : targetOf m .chelant u = 0
  · rw [enterLiquids_skips ht] at hw ⊢
    exact doseWater_standsIn (hs.writeActual .chelant 0) hw
  · rw [enterLiquids_doses ht]
    exact (hs.beginComponent .chelant).deliver .chelant _ ⟨nofun, nofun⟩

end liquids

/-! ### The stage at launch (R53, R70) -/

section resumed

variable {m : Mixer} {h : HoldRecord} {u : State}

/-- R43: an accepted ash leaves ASH. -/
theorem accept_ash_leaves (m : Mixer) (s : State) : ((accept m .ash s).seq m).stage ≠ some .ash := by
  cases hs : stepped m s with
  | true =>
    rw [accept_ash_stepped hs, stepWait_seq]
    exact nofun
  | false =>
    rw [accept_ash_unstepped hs, enterCement_stage]
    exact nofun

theorem raiseHold_leaves {st : Stage} {v : State} (hv : StandsIn m st u v) (cause : HoldCause) (named : Option Component)
    (st' : Stage) : ((raiseHold m cause named v).seq m).stage ≠ some st' := by
  rw [hv.held_seq]
  exact nofun

theorem componentDone_standsIn {st : Stage} {v : State} (hv : StandsIn m st u v) : StandsIn m st u (componentDone m v) :=
  hv.withSeq _ rfl rfl rfl rfl hv.channel

theorem accept_chelant_standsIn {v : State} (hv : StandsIn m .liquids u v)
    (hw : ((accept m .chelant v).seq m).stage = some .liquids) : StandsIn m .liquids u (accept m .chelant v) := by
  have hdone := componentDone_standsIn hv
  rw [accept_chelant] at hw ⊢
  split
  · next ht =>
    rw [if_pos ht] at hw
    exact doseWater_standsIn hdone.startPotLife hw
  · next ht =>
    rw [if_neg ht] at hw
    exact doseWater_standsIn hdone hw

/-- R42 (1), R43, R49: a mixer that stays in the stage of its accepted component stands in it. -/
theorem accept_standsIn {st : Stage} {c : Component} {ch : Channel} {tolerance : Nat} {v : State}
    (hdose : Doses st c ch tolerance) (hv : StandsIn m st u v) (hw : ((accept m c v).seq m).stage = some st) :
    StandsIn m st u (accept m c v) := by
  obtain ⟨rfl, rfl, -, -⟩ | ⟨rfl, rfl, -, -⟩ | ⟨rfl, rfl, -, -⟩ := doses_cases hdose
  · exact absurd hw (accept_ash_leaves m v)
  · exact accept_chelant_standsIn hv hw
  · exact absurd hw (afterLiquids_leaves m _)

variable (hf : (u.station m).fill = none) (hd : (u.seq m).delivery = none)
include hf hd

theorem resumeStage_inCourse_standsIn {st : Stage} {c : Component} {ch : Channel} {tolerance : Nat}
    (hdose : Doses st c ch tolerance) (hst : h.stage = st) (hc : (u.seq m).component = some c)
    (hw : ((resumeStage m h u).seq m).stage = some st) : StandsIn m st u (resumeStage m h u) := by
  have hcharging : st = .pour → MixerState.charging = .pouring := by
    obtain ⟨rfl, -⟩ | ⟨rfl, -⟩ | ⟨rfl, -⟩ := doses_cases hdose
    · exact nofun
    · exact nofun
    · exact nofun
  have hs := inStage_standsIn hf hd (state := .charging) (st := st) rfl hcharging
  by_cases hlt : (u.seq m).dosed < targetOf m c u
  · rw [resumeStage_short hdose hst hc hlt]
    refine hs.deliver ch _ ?_
    obtain ⟨-, -, rfl, -⟩ | ⟨-, -, rfl, -⟩ | ⟨-, -, rfl, -⟩ := doses_cases hdose
    · exact ⟨nofun, nofun⟩
    · exact ⟨nofun, nofun⟩
    · exact ⟨nofun, nofun⟩
  · rw [resumeStage_complete hdose hst hc (Nat.le_of_not_lt hlt)] at hw ⊢
    split
    · next ha =>
      rw [if_pos ha] at hw
      exact absurd hw (raiseHold_leaves hs _ _ _)
    · next ha =>
      rw [if_neg ha] at hw
      exact accept_standsIn hdose hs hw

/-- A mixer that stays in its stage at launch stands in it. -/
theorem resumeStage_standsIn (hst : h.stage ≠ .discharging) (hw : ((resumeStage m h u).seq m).stage = some h.stage) :
    StandsIn m h.stage u (resumeStage m h u) := by
  cases hs : h.stage with
  | discharging => exact absurd hs hst
  | ash =>
    rw [hs] at hw
    by_cases hc : (u.seq m).component = some .ash
    · exact resumeStage_inCourse_standsIn hf hd (ch := .ash) (tolerance := 10) (by simp [Doses]) hs hc hw
    · rw [resumeStage_ash hs hc]
      exact enterAsh_standsIn hf hd
  | liquids =>
    rw [hs] at hw
    by_cases hc : (u.seq m).component = some .chelant
    · exact resumeStage_inCourse_standsIn hf hd (ch := .chelant) (tolerance := 50) (by simp [Doses]) hs hc hw
    · by_cases hwater : (u.seq m).component = some .water
      · exact resumeStage_inCourse_standsIn hf hd (ch := .water) (tolerance := 15) (by simp [Doses]) hs hwater hw
      · rw [resumeStage_liquids hs hc hwater] at hw ⊢
        exact enterLiquids_standsIn hf hd hw
  | cement =>
    rw [resumeStage_cement hs]
    have hq := topUpCleared_seq m u
    have hv := enterCement_standsIn (u := topUpCleared m u) hf (by rw [hq]; exact hd)
    exact hv.rebase (SameBatch.withSeq _ rfl).poured rfl (by rw [hq])
  | mix =>
    rw [resumeStage_mix hs]
    exact enterMix_standsIn hf hd
  | pour =>
    rw [hs, resumeStage_pour hs] at hw
    rw [resumeStage_pour hs]
    exact (enterPour_standsIn (u := unreadableCleared m u) (by rw [unreadableCleared_station]; exact hf) hd hw).rebase
      rfl rfl rfl

/-- R53, R70: the look comes in the stage at launch. -/
theorem holdAgain_looks (hst : h.stage ≠ .discharging) :
    ∃ v, StandsIn m h.stage u v ∧ holdAgain m h u = raiseHold m .motorOverload none v ∧
      ((v = resumeStage m h u ∧ (v.seq m).stage = some h.stage) ∨
       (v = takeStage m h.stage u ∧ ((resumeStage m h u).seq m).stage ≠ some h.stage)) := by
  unfold holdAgain
  dsimp only
  by_cases hw : ((resumeStage m h u).seq m).stage = some h.stage
  · exact ⟨_, resumeStage_standsIn hf hd hst hw, by rw [if_pos hw], .inl ⟨rfl, hw⟩⟩
  · exact ⟨_, takeStage_standsIn hf hd hst, by rw [if_neg hw], .inr ⟨rfl, hw⟩⟩

end resumed

end Sys2Proof.Proofs
end

section
/-! PROOF. MIXER RESUME (R53, R70 to R73): the request, the stage entered or held again, and the casts of a resumed OVERDOSE. -/

namespace Sys2Proof.Proofs

open Sys2Proof.Machine

/-! ### The request (R70) -/

section request

variable {code : Nat} {m : Mixer} {s : State} (hm : mixerOfCode code = some m)
include hm

theorem mixerResume_held {h : HoldRecord} (hs : (s.seq m).state = .held) (hh : (s.seq m).hold = some h) :
    mixerResume code s = (resume m h s, .done .empty) := by
  rw [mixerResume, namingMixer_named _ _ hm]
  simp only [hs, hh]

theorem mixerResume_refused (hs : (s.seq m).state ≠ .held) : mixerResume code s = (s, .refused .state .empty) := by
  rw [mixerResume, namingMixer_named _ _ hm]
  split
  · next hheld _ => exact absurd hheld hs
  · rfl

end request

/-! ### The state a resume enters the stage from -/

section before

variable (m : Mixer) (h : HoldRecord) (s : State)

theorem deviated_target (c : Component) : targetOf m c (deviated m h s) = targetOf m c s := (deviated_sameBatch m h s).target c

theorem deviated_arbiter : (deviated m h s).arbiter = s.arbiter := by
  obtain ⟨-, -, harbiter, -⟩ := deviated_frame m h s
  exact harbiter

theorem deviated_oscillator : (deviated m h s).oscillator = s.oscillator := by
  obtain ⟨-, -, -, -, -, -, hoscillator, -⟩ := deviated_frame m h s
  exact hoscillator

theorem deviated_clock : (deviated m h s).clock = s.clock := by
  obtain ⟨-, -, -, -, -, -, -, hclock, -⟩ := deviated_frame m h s
  exact hclock

theorem deviated_orders : (deviated m h s).orders = s.orders := by
  obtain ⟨-, -, -, -, -, horders, -⟩ := deviated_frame m h s
  exact horders

variable {m s}

theorem deviated_canPour (hp : CanPour m s) : CanPour m (deviated m h s) := by
  obtain ⟨-, hstations, -, htransit, hspace, -⟩ := deviated_frame m h s
  have hb := deviated_sameBatch m h s
  refine ⟨?_, ?_, ?_, (placeFree_congr hstations htransit).trans hp.place, hspace.trans hp.first⟩
  · rw [hb.poured, hb.castCount]
    exact hp.left
  · rw [hb.classField, deviated_contents]
    exact hp.enough
  · rw [deviated_station]
    exact hp.unwritten

theorem deviated_same (hc : h.cause ≠ .overdose) : (deviated m h s).store = s.store := by
  rw [deviated_other m h s hc]
  rfl

/-- A hold after a resume keeps the casts poured and the time. -/
theorem HeldWith.resumed {cause : HoldCause} {component : Option Component} {st : Stage} {t : State}
    (hw : HeldWith m cause component st (deviated m h s) t) :
    (t.seq m).state = .held ∧ (t.seq m).blocked = true ∧ (t.seq m).delivery = none ∧ (t.seq m).mixTimer = none ∧
    (t.seq m).hold = some
      { cause := cause, component := component, stage := st, dosed := component.map fun _ => (t.seq m).dosed
        poured := poured m s, time := s.clock } := by
  refine ⟨hw.state, hw.blocked, hw.delivery, hw.mixTimer, ?_⟩
  rw [hw.hold, (deviated_sameBatch m h s).poured, deviated_clock]

end before

/-! ### The component in course (R71) -/

section inCourse

variable {m : Mixer} {h : HoldRecord} {st : Stage} {c : Component} {ch : Channel} {tolerance : Nat} {s : State}
  (ho : (s.seq m).overloadInput = false) (hdose : Doses st c ch tolerance) (hst : h.stage = st)
  (hc : (s.seq m).component = some c)

theorem deviated_component : ((deviated m h s).seq m).component = (s.seq m).component := by rw [deviated_seq]

theorem deviated_dosed : ((deviated m h s).seq m).dosed = (s.seq m).dosed := by rw [deviated_seq]

include ho hdose hst hc

theorem resume_short (hlt : (s.seq m).dosed < targetOf m c s) :
    resume m h s = deliver m ch (targetOf m c s - (s.seq m).dosed) (inStage m .charging st (deviated m h s)) := by
  rw [resume_clear h ho, resumeStage_short hdose hst (deviated_component.trans hc), deviated_target, deviated_dosed]
  rw [deviated_target, deviated_dosed]
  exact hlt

theorem resume_overdosed (hle : targetOf m c s ≤ (s.seq m).dosed)
    (ha : targetOf m c s + targetOf m c s * tolerance / 1000 < (s.seq m).dosed) (he : ¬ Excused h c) :
    resume m h s = raiseHold m .overdose (some c) (inStage m .charging st (deviated m h s)) := by
  rw [resume_clear h ho]
  refine resumeStage_overdosed hdose hst (deviated_component.trans hc) ?_ ?_ he
  · rw [deviated_target, deviated_dosed]
    exact hle
  · rw [deviated_target, deviated_dosed]
    exact ha

theorem resume_accepts (hle : targetOf m c s ≤ (s.seq m).dosed)
    (hor : ¬ targetOf m c s + targetOf m c s * tolerance / 1000 < (s.seq m).dosed ∨ Excused h c) :
    resume m h s = accept m c (inStage m .charging st (deviated m h s)) := by
  rw [resume_clear h ho]
  refine resumeStage_accepts hdose hst (deviated_component.trans hc) ?_ ?_
  · rw [deviated_target, deviated_dosed]
    exact hle
  · rw [deviated_target, deviated_dosed]
    exact hor

end inCourse

/-! ### What an accepted component leads to in a resumed stage (R43, R49, R57) -/

section accepted

variable {m : Mixer} {u : State}

theorem resumed_stepped (state : MixerState) (st : Stage) (m : Mixer) (h : HoldRecord) (s : State) :
    stepped m (inStage m state st (deviated m h s)) = stepped m s :=
  ((deviated_sameBatch m h s).trans (inStage_sameBatch m state st _)).stepped

/-- R49: water follows an accepted chelant. -/
theorem chelantDone_seq (hw : targetOf m .water u ≠ 0) :
    (accept m .chelant (inStage m .charging .liquids u)).seq m =
      { u.seq m with
        state := .charging, stage := some .liquids, saved := none, component := some .water, dosed := 0, topUp := false
        potLife := startedPotLife m (inStage m .charging .liquids u)
        delivery := some { channel := .water, amount := targetOf m .water u, limit := some (u.oscillator + 120) } } := by
  have ht := (inStage_sameBatch m .charging .liquids u).target .water
  rw [accept_chelant_doses (by rw [ht]; exact hw), inStage_seq, inStage_oscillator, ht]

theorem chelantDone_marker (hw : targetOf m .water u ≠ 0) {b : BatchRef} (hb : (u.seq m).batch = some b) :
    (accept m .chelant (inStage m .charging .liquids u)).marker m =
      some { slot := b.slot, batch := b.id, stage := .liquids } := by
  have ht : targetOf m .water (inStage m .charging .liquids u) ≠ 0 := by
    rw [(inStage_sameBatch m .charging .liquids u).target]
    exact hw
  have hdone : targetOf m .water (componentDone m (inStage m .charging .liquids u)) ≠ 0 := by
    rw [(componentDone_sameBatch m _).target]
    exact ht
  rw [accept_chelant, if_neg ht, State.marker, ← componentDone, doseWater_store hdone]
  exact inStage_marker .charging .liquids hb

theorem afterLiquids_marker (hs : stepped m u = false) {b : BatchRef} (hb : (u.seq m).batch = some b) :
    (afterLiquids m u).marker m = some { slot := b.slot, batch := b.id, stage := .mix } := by
  rw [afterLiquids_eq, if_neg (Bool.eq_false_iff.1 hs)]
  exact enterMix_marker (by rw [withSeq_seq]; exact hb)

theorem enterLiquids_marker (hc : targetOf m .chelant u ≠ 0) {b : BatchRef} (hb : (u.seq m).batch = some b) :
    (enterLiquids m u).marker m = some { slot := b.slot, batch := b.id, stage := .liquids } := by
  rw [enterLiquids_doses hc]
  exact inStage_marker .charging .liquids hb

theorem atPour_noOrders (ho : u.orders = []) : (atPour m u).orders = [] :=
  noOrders_stable.seq m _ (setDrive_stable noOrders_stable m .agitate
    (markStage_stable noOrders_stable m .pour (noOrders_stable.seq m _ ho)))

end accepted

/-! ### The component of a hold record (R63) -/

theorem holdComponent_named {st : Stage} {c : Component} {ch : Channel} {tolerance : Nat} (hdose : Doses st c ch tolerance)
    (current : Option Component) : holdComponent current (some c) st = some c := by
  obtain ⟨rfl, -⟩ | ⟨rfl, -⟩ | ⟨rfl, -⟩ := doses_cases hdose
  · rfl
  · rfl
  · rfl

theorem holdComponent_current {st : Stage} (hst : st ≠ .discharging) (current : Option Component) :
    holdComponent current none st = if st = .mix ∨ st = .pour then none else current := by
  cases st with
  | ash => rfl
  | cement => rfl
  | liquids => rfl
  | mix => rfl
  | pour => rfl
  | discharging => exact absurd rfl hst

/-! ### The component kept by a hold (R53, R71) -/

section heldAgain

variable {m : Mixer} {h : HoldRecord} {st : Stage} {c : Component} {ch : Channel} {tolerance : Nat} {u : State}
  (hf : (u.station m).fill = none) (hd : (u.seq m).delivery = none) (hdose : Doses st c ch tolerance) (hst : h.stage = st)
  (hc : (u.seq m).component = some c)

theorem takeStage_doses (hdose : Doses st c ch tolerance) : takeStage m st u = inStage m .charging st u := by
  obtain ⟨rfl, -⟩ | ⟨rfl, -⟩ | ⟨rfl, -⟩ := doses_cases hdose
  · rfl
  · rfl
  · rfl

theorem stage_ne_discharging_of_doses (hdose : Doses st c ch tolerance) : st ≠ .discharging := by
  obtain ⟨rfl, -⟩ | ⟨rfl, -⟩ | ⟨rfl, -⟩ := doses_cases hdose
  · exact nofun
  · exact nofun
  · exact nofun

include hf hd hdose hst hc

/-- A component short of its target is in course when the overload holds the mixer again. -/
theorem holdAgain_short (hlt : (u.seq m).dosed < targetOf m c u) : ((holdAgain m h u).seq m).component = some c := by
  obtain ⟨v, hv, ht, ⟨rfl, -⟩ | ⟨-, hw⟩⟩ := holdAgain_looks (h := h) hf hd (hst ▸ stage_ne_discharging_of_doses hdose)
  · rw [ht, hv.held_component, resumeStage_short hdose hst hc hlt, deliver_seq, inStage_seq]
    exact hc
  · rw [resumeStage_short hdose hst hc hlt, deliver_seq, inStage_seq, hst] at hw
    exact absurd rfl hw

/-- A component whose judgment would leave the stage is kept as it stands. -/
theorem holdAgain_component (hw : ((resumeStage m h u).seq m).stage ≠ some st) :
    ((holdAgain m h u).seq m).component = some c ∧ ((holdAgain m h u).seq m).dosed = (u.seq m).dosed := by
  obtain ⟨v, hv, ht, ⟨rfl, hw'⟩ | ⟨rfl, -⟩⟩ := holdAgain_looks (h := h) hf hd (hst ▸ stage_ne_discharging_of_doses hdose)
  · exact absurd (hst ▸ hw') hw
  · have hq : (takeStage m h.stage u).seq m = { u.seq m with state := .charging, stage := some st, saved := none } := by
      rw [hst, takeStage_doses hdose, inStage_seq]
    rw [ht, hv.held_component, hv.held_dosed, hq]
    · exact ⟨hc, rfl⟩
    · rw [hq]
      exact hd

/-- R71: an overdose, an accepted ash and an accepted water leave the stage. -/
theorem resumeStage_leaves (hle : targetOf m c u ≤ (u.seq m).dosed)
    (hor : (targetOf m c u + targetOf m c u * tolerance / 1000 < (u.seq m).dosed ∧ ¬ Excused h c) ∨ c ≠ .chelant) :
    ((resumeStage m h u).seq m).stage ≠ some st := by
  have hv := takeStage_standsIn hf hd (stage_ne_discharging_of_doses hdose)
  rw [takeStage_doses hdose] at hv
  rw [resumeStage_complete hdose hst hc hle, upperLimit_of_doses hdose]
  split
  · exact raiseHold_leaves hv _ _ _
  · next hn =>
    have hne : c ≠ .chelant := hor.resolve_left hn
    obtain ⟨rfl, rfl, -⟩ | ⟨-, rfl, -⟩ | ⟨rfl, rfl, -⟩ := doses_cases hdose
    · exact accept_ash_leaves m _
    · exact absurd rfl hne
    · exact afterLiquids_leaves m _

end heldAgain

theorem holdAgain_water {m : Mixer} {h : HoldRecord} {u : State} (hf : (u.station m).fill = none)
    (hd : (u.seq m).delivery = none) (hst : h.stage = .liquids)
    (hr : resumeStage m h u = accept m .chelant (inStage m .charging .liquids u)) (ht : targetOf m .water u ≠ 0) :
    ((holdAgain m h u).seq m).component = some .water := by
  have hq := accept_chelant_doses (s := inStage m .charging .liquids u)
    (by rw [(inStage_sameBatch m .charging .liquids u).target]; exact ht)
  obtain ⟨v, hv, hheld, ⟨rfl, -⟩ | ⟨-, hw⟩⟩ := holdAgain_looks (h := h) hf hd (by rw [hst]; exact nofun)
  · rw [hheld, hv.held_component, hr, hq]
  · rw [hr, hq, inStage_seq, hst] at hw
    exact absurd rfl hw

/-! ### A POUR held again (R53, R66) -/

/-- The mixer stands in POUR with its count 0, no delivery, and the batches and casts of `u`. -/
structure PourStands (m : Mixer) (u v : State) : Prop where
  unreadable : (v.station m).unreadable = 0
  delivery : (v.seq m).delivery = none
  batches : v.store.batches = u.store.batches
  entries : v.store.entries = u.store.entries

section pour

variable {m : Mixer} {h : HoldRecord} {u : State}

theorem atPour_stands (hd : (u.seq m).delivery = none) : PourStands m u (atPour m (unreadableCleared m u)) where
  unreadable := by rw [atPour_station, unreadableCleared_station]
  delivery := by rw [atPour_seq]; exact hd
  batches := by simp [atPour, unreadableCleared]
  entries := by simp [atPour, unreadableCleared]

theorem takeStage_pourStands (hd : (u.seq m).delivery = none) : PourStands m u (takeStage m .pour u) := by
  have ht : takeStage m .pour u = inStage m .pouring .pour (unreadableCleared m u) := rfl
  rw [ht]
  refine ⟨?_, ?_, inStage_batches m _ _ _, inStage_entries m _ _ _⟩
  · rw [inStage_station, unreadableCleared_station]
  · rw [inStage_seq]
    exact hd

theorem enterPour_pourStands (hd : (u.seq m).delivery = none)
    (hw : ((enterPour m (unreadableCleared m u)).seq m).stage = some .pour) :
    PourStands m u (enterPour m (unreadableCleared m u)) := by
  have hs := atPour_stands hd
  obtain he | he := enterPour_stays hw
  · rw [he]
    exact hs
  · obtain ⟨hq, -, hcount, hstore, -⟩ := enterSpace_keeps m (castBegun m (atPour m (unreadableCleared m u)))
    rw [castBegun_station] at hcount
    rw [he]
    exact ⟨hcount.trans hs.unreadable, by rw [hq]; exact hs.delivery, by rw [hstore]; exact hs.batches,
      by rw [hstore]; exact hs.entries⟩

theorem holdAgain_pour (hf : (u.station m).fill = none) (hd : (u.seq m).delivery = none) (hst : h.stage = .pour) :
    ((holdAgain m h u).station m).claim = false ∧ ((holdAgain m h u).station m).moldCall = none ∧
    ((holdAgain m h u).station m).unreadable = 0 ∧ (holdAgain m h u).store.batches = u.store.batches ∧
    (holdAgain m h u).store.entries = u.store.entries := by
  obtain ⟨v, hv, ht, hcases⟩ := holdAgain_looks (h := h) hf hd (by rw [hst]; exact nofun)
  have hs : PourStands m u v := by
    obtain ⟨rfl, hw⟩ | ⟨rfl, -⟩ := hcases
    · rw [hst, resumeStage_pour hst] at hw
      rw [resumeStage_pour hst]
      exact enterPour_pourStands hd hw
    · rw [hst]
      exact takeStage_pourStands hd
  rw [hst] at hv
  obtain ⟨hclaim, hcall, hcount⟩ := hv.held_station .motorOverload none
  have hstore := hv.held_store .motorOverload none
  rw [stopDelivery_none hs.delivery] at hstore
  rw [ht, hstore]
  exact ⟨hclaim, hcall, hcount.trans hs.unreadable, hs.batches, hs.entries⟩

end pour

/-! ### The batch and its casts (R73) -/

section calm

variable {m : Mixer} {h : HoldRecord} {s u : State} {slot : Nat} {r : BatchRecord} {fin : Bool}

theorem atPour_calm (hk : Calm slot fin s u) : Calm slot fin s (atPour m u) :=
  withSeq_calm m _ (setDrive_calm m .agitate (markStage_calm m .pour (takeState_calm m .pouring _ hk)))

/-- A POUR that goes on ends no batch. -/
theorem enterPour_calm_stays (hk : Calm slot fin s u) (hw : ((enterPour m u).seq m).stage = some .pour) :
    Calm slot fin s (enterPour m u) := by
  obtain he | he := enterPour_stays hw
  · rw [he]
    exact atPour_calm hk
  · rw [he]
    exact enterSpace_calm m (withStation_calm m _ (atPour_calm hk))

theorem enterPour_calm_enough (hk : Calm slot fin s u) (hleft : poured m u < castCount m u)
    (henough : classField m (·.castMass) u / 2 ≤ contents m u) : Calm slot fin s (enterPour m u) := by
  rw [enterPour_eq, if_neg (Nat.ne_of_lt hleft)]
  refine beginCycle_calm_false m (atPour_calm hk) (Nat.not_lt.2 ?_)
  rw [atPour_contents, (atPour_sameBatch m u).classField]
  exact henough

theorem holdAgain_calm_pour (hst : h.stage = .pour) : Calm slot fin u (holdAgain m h u) := by
  unfold holdAgain
  refine raiseHold_calm m _ _ ?_
  split
  · next hw =>
    rw [hst, resumeStage_pour hst] at hw
    rw [resumeStage_pour hst]
    exact enterPour_calm_stays (withStation_calm m _ (Calm.refl u)) hw
  · exact takeStage_calm m _ (Calm.refl u)

/-- R73: the batch of a resume that ends no batch without live casts. -/
theorem resume_calm_stays
    (hstays : (s.seq m).overloadInput = true ∨ h.stage ≠ .pour ∨
      (poured m s < castCount m s ∧ classField m (·.castMass) s / 2 ≤ contents m s)) :
    Calm slot false (deviated m h s) (resume m h s) := by
  by_cases hst : h.stage = .pour
  · by_cases ho : (s.seq m).overloadInput = true
    · rw [resume_asserted h ho]
      exact holdAgain_calm_pour hst
    · obtain ⟨hleft, henough⟩ := (hstays.resolve_left ho).resolve_left (not_not_intro hst)
      have hb := deviated_sameBatch m h s
      rw [resume_clear h (Bool.eq_false_iff.2 ho), resumeStage_pour hst]
      refine enterPour_calm_enough (withStation_calm m _ (Calm.refl _)) ?_ ?_
      · show poured m (deviated m h s) < castCount m (deviated m h s)
        rw [hb.poured, hb.castCount]
        exact hleft
      · show classField m (·.castMass) (deviated m h s) / 2 ≤ contents m (deviated m h s)
        rw [hb.classField, deviated_contents]
        exact henough
  · exact resume_calm m h s fun _ => hst

/-- R73: the dose-deviation flag of the batch. -/
theorem flag_of_calm (hb : batchOf m s = some (slot, r)) (hk : Calm slot fin (deviated m h s) u)
    (hlive : fin = true → r.live ≠ 0) :
    ∃ x, u.batch slot = some x ∧ x.id = r.id ∧ x.doseDeviation = (r.doseDeviation || decide (h.cause = .overdose)) := by
  have hflag := batchOf_deviated m h s
  rw [hb] at hflag
  obtain ⟨y, hy, hid, hdev, -⟩ := hk.batch _ (batchOf_some hflag).2 hlive
  exact ⟨y, hy, hid, hdev⟩

theorem resume_castAt (p : Nat) : (resume m h s).castAt p = (deviated m h s).castAt p :=
  (resume_calm (slot := 0) (fin := true) m h s nofun).casts p

/-- R73: the casts of a resumed OVERDOSE. -/
theorem resume_castAt_overdose {p : Nat} {c : CastPart} (hc : h.cause = .overdose) (hb : batchOf m s = some (slot, r))
    (hp : s.castAt p = some c) : (resume m h s).castAt p = some (deviatedCast slot r.id s c) :=
  (resume_castAt p).trans (deviated_castAt m h s hc hb hp)

end calm

/-! ### The statement -/

/-- Settles O34: the request by its outcomes, the stage entered by the lemma of that stage, the hold of a mixer whose overload
input stands asserted by the state its look comes in, and the batch by `Calm` after the dose deviation. -/
theorem mixerResumeGoesBackIntoItsStage : Obligations.MixerResumeGoesBackIntoItsStage := by
  intro tag code slot tolerance m h st c ch b r s q t dosed target clear still asserted back marked asked waits heldAgain
    inCourse above excused accepted canPour
  have hq := deviated_seq m h s
  have hb := deviated_sameBatch m h s
  have hbatch : (s.seq m).batch = some b → ((deviated m h s).seq m).batch = some b := fun hrun => by
    rw [hq]
    exact hrun
  have hstill : still → ((deviated m h s).station m).fill = none ∧ ((deviated m h s).seq m).delivery = none :=
    fun ⟨hf, hd⟩ => ⟨by rw [deviated_station]; exact hf, by rw [hq]; exact hd⟩
  have hcomponent : (s.seq m).component = some c → ((deviated m h s).seq m).component = some c :=
    deviated_component.trans
  refine ⟨?range, ?refused, ?acts, ?short, ?ash, ?chelant, ?water, ?overdosed, ?liquids, ?cementFree, ?cementWaits, ?mix,
    ?pour, ?last, ?held, ?heldShort, ?heldComplete, ?heldChelant, ?heldPour, ?deviation⟩
  case range => exact fun hl hm => request_unchanged rfl hl (namingMixer_range _ _ hm)
  case refused => exact fun hl hm hs => request_unchanged rfl hl (mixerResume_refused (s := s.holding tag q) hm hs)
  case acts =>
    intro hl hm hs hh
    exact request_acts rfl hl (mixerResume_held (s := s.holding tag q) hm hs hh) (resume_kept m h (.refl _))
      (resume_stable (awaitsReply_stable _) m h (holding_awaits tag _ hl))
  case short =>
    rintro ⟨ho, hrun⟩ ⟨hc, hst, hdose⟩ hlt
    have hr : t = deliver m ch (target - dosed) (inStage m .charging st (deviated m h s)) := resume_short ho hdose hst hc hlt
    refine ⟨?_, ?_⟩
    · rw [hr, deliver_seq, inStage_seq, inStage_oscillator, deviated_oscillator, channelLimit_of_doses hdose, hq]
      rfl
    · simp only [marked, hr]
      exact inStage_marker .charging st (hbatch hrun)
  case ash =>
    rintro ⟨ho, hrun⟩ ⟨hc, hst, hdose⟩ ⟨hle, hor⟩ rfl
    have hr : t = accept m .ash (inStage m .charging st (deviated m h s)) := resume_accepts ho hdose hst hc hle hor
    have hstepped := resumed_stepped .charging st m h s
    refine ⟨fun hs => ?_, fun hs hh => ?_⟩
    · simp only [waits, hr, accept_ash_stepped (hstepped.trans hs), stepWait_seq, componentDone_seq, inStage_seq, hq]
      exact ⟨trivial, trivial, trivial⟩
    · have hfree : (componentDone m (inStage m .charging st (deviated m h s))).arbiter.holder = none := by
        rw [← hh, ← deviated_arbiter m h s]
        exact congrArg Arbiter.holder (inStage_arbiter m .charging st (deviated m h s))
      rw [accept_ash_unstepped (hstepped.trans hs)] at hr
      simp only [marked, hr]
      refine ⟨?_, enterCement_stage m _, ?_, enterCement_free_marker hfree ?_⟩
      · rw [enterCement_free hfree, grant_seq, weighing, inStage_seq]
      · rw [enterCement_free hfree, grant_eq]
      · rw [componentDone_seq, inStage_seq]
        exact hbatch hrun
  case chelant =>
    rintro ⟨ho, hrun⟩ ⟨hc, hst, hdose⟩ ⟨hle, hor⟩ rfl hwater
    obtain rfl := stage_of_chelant hdose
    have hr : t = accept m .chelant (inStage m .charging .liquids (deviated m h s)) :=
      resume_accepts ho hdose hst hc hle hor
    have hw : targetOf m .water (deviated m h s) ≠ 0 := by rw [deviated_target]; exact hwater
    have ht := chelantDone_seq hw
    rw [← hr, deviated_target, deviated_oscillator] at ht
    rw [ht]
    refine ⟨rfl, rfl, rfl, rfl, rfl, ?_⟩
    simp only [marked, hr]
    exact chelantDone_marker hw (hbatch hrun)
  case water =>
    rintro ⟨ho, hrun⟩ ⟨hc, hst, hdose⟩ ⟨hle, hor⟩ rfl
    have hr : t = afterLiquids m (componentDone m (inStage m .charging st (deviated m h s))) :=
      (resume_accepts ho hdose hst hc hle hor).trans (accept_water m _)
    have hsame : SameBatch m s (componentDone m (inStage m .charging st (deviated m h s))) :=
      (hb.trans (inStage_sameBatch m .charging st _)).trans (componentDone_sameBatch m _)
    refine ⟨fun hs => ?_, fun hs => ?_⟩
    · simp only [waits, hr, afterLiquids_stepped (hsame.stepped.trans hs), componentDone_seq, inStage_seq, hq]
      exact ⟨trivial, trivial, trivial⟩
    · have hosc : (componentDone m (inStage m .charging st (deviated m h s))).oscillator = s.oscillator :=
        (inStage_oscillator m .charging st _).trans (deviated_oscillator m h s)
      simp only [marked, hr, afterLiquids_unstepped (hsame.stepped.trans hs), hosc, hsame.classField]
      refine ⟨trivial, trivial, trivial, afterLiquids_marker (hsame.stepped.trans hs) ?_⟩
      rw [componentDone_seq, inStage_seq]
      exact hbatch hrun
  case overdosed =>
    rintro ⟨ho, hrun⟩ ⟨hc, hst, hdose⟩ hs hle ha he
    have hr : t = _ := resume_overdosed ho hdose hst hc hle ha he
    obtain ⟨hf, hd⟩ := hstill hs
    have hv := takeStage_standsIn hf hd (stage_ne_discharging_of_doses hdose)
    rw [takeStage_doses hdose] at hv
    have hheld := (hv.held .overdose (some c)).resumed
    rw [holdComponent_named hdose, ← hr] at hheld
    exact ⟨hheld, (congrArg (fun x => State.marker x m) hr).trans (hv.held_marker .overdose (some c) (hbatch hrun))⟩
  case liquids =>
    rintro ⟨ho, hrun⟩ hst hc hchelant
    have ht : targetOf m .chelant (deviated m h s) ≠ 0 := by rw [deviated_target]; exact hchelant
    have hr : t = enterLiquids m (deviated m h s) := (resume_clear h ho).trans
      (resumeStage_liquids hst (by rw [hq]; simp [hc]) (by rw [hq]; simp [hc]))
    refine ⟨?_, ?_⟩
    · rw [hr, enterLiquids_seq ht, deviated_target, deviated_oscillator, hq]
    · simp only [marked, hr]
      exact enterLiquids_marker ht (hbatch hrun)
  case cementFree =>
    rintro ⟨ho, hrun⟩ hst hh
    have hr : t = enterCement m (topUpCleared m (deviated m h s)) := (resume_clear h ho).trans (resumeStage_cement hst)
    have harb : (topUpCleared m (deviated m h s)).arbiter = s.arbiter := deviated_arbiter m h s
    have hfree : (topUpCleared m (deviated m h s)).arbiter.holder = none := by rw [harb]; exact hh
    refine ⟨?_, ?_, ?_⟩
    · rw [hr, enterCement_free hfree, grant_seq, weighing_resumed, deviated_target, deviated_oscillator, hq]
    · rw [hr, enterCement_free hfree, grant_eq, harb]
    · simp only [marked, hr]
      exact enterCement_free_marker hfree (by rw [topUpCleared_seq]; exact hbatch hrun)
  case cementWaits =>
    rintro ⟨ho, hrun⟩ hst hh hw
    have harb : (topUpCleared m (deviated m h s)).arbiter = s.arbiter := deviated_arbiter m h s
    have hr : t = _ := ((resume_clear h ho).trans (resumeStage_cement hst)).trans
      (enterCement_waits (by rw [harb]; exact hh) (otherMixer_ne m) (by rw [harb]; exact hw))
    have hrefs : ((topUpCleared m (deviated m h s)).seq m).batch = some b := by rw [topUpCleared_seq]; exact hbatch hrun
    refine ⟨?_, ?_, ?_⟩
    · rw [hr]
      refine (inStage_seq m .charging .cement _).trans ?_
      rw [topUpCleared_seq, hq]
    · rw [hr, harb]
    · simp only [marked, hr]
      exact inStage_marker .charging .cement hrefs
  case mix =>
    rintro ⟨ho, hrun⟩ hst
    have hr : t = enterMix m (deviated m h s) := (resume_clear h ho).trans (resumeStage_mix hst)
    refine ⟨?_, ?_⟩
    · rw [hr, enterMix_seq, hb.classField, deviated_oscillator, hq]
    · simp only [marked, hr]
      exact enterMix_marker (hbatch hrun)
  case pour =>
    rintro ⟨ho, hrun⟩ hst ⟨hleft, henough, hw, hplace, hfirst⟩
    have hp := unreadableCleared_canPour (deviated_canPour h ⟨hleft, henough, hw, hplace, hfirst⟩)
    have hr : t = enterPour m (unreadableCleared m (deviated m h s)) := (resume_clear h ho).trans (resumeStage_pour hst)
    have hpoured : poured m (unreadableCleared m (deviated m h s)) = poured m s := hb.poured
    have hosc : (unreadableCleared m (deviated m h s)).oscillator = s.oscillator := deviated_oscillator m h s
    have hseq : (unreadableCleared m (deviated m h s)).seq m = (deviated m h s).seq m := rfl
    refine ⟨?_, ?_, ?_⟩
    · rw [hr, enterPour_calls_seq hp, hseq, hq]
    · rw [hr, enterPour_calls_station hp, unreadableCleared_station, deviated_station, hpoured, hosc]
    · simp only [marked, hr]
      exact enterPour_calls_marker hp (hbatch hrun)
  case last =>
    rintro ⟨ho, hrun⟩ hst hp
    have hsame : SameBatch m s (atPour m (unreadableCleared m (deviated m h s))) :=
      (hb.trans (unreadableCleared_sameBatch m _)).trans (atPour_sameBatch m _)
    have hr : t = pourEnd m (atPour m (unreadableCleared m (deviated m h s))) :=
      ((resume_clear h ho).trans (resumeStage_pour hst)).trans (enterPour_ends (hb.poured.trans (hp.trans hb.castCount.symm)))
    refine ⟨fun hs => ?_, fun hs horders => ?_⟩
    · rw [hr, pourEnd_stepped (hsame.stepped.trans hs), stepWait_seq]
      exact ⟨rfl, rfl⟩
    · have hcontents : contents m (atPour m (unreadableCleared m (deviated m h s))) = contents m s :=
        (atPour_contents m _).trans (deviated_contents m h s)
      have hnone : (atPour m (unreadableCleared m (deviated m h s))).orders = [] :=
        atPour_noOrders ((deviated_orders m h s).trans horders)
      rw [hr, pourEnd_unstepped (hsame.stepped.trans hs), finishBatch_state hnone, hcontents]
  case held =>
    rintro ⟨ho, hs⟩ hst
    obtain ⟨hf, hd⟩ := hstill hs
    obtain ⟨v, hv, ht, -⟩ := holdAgain_looks (h := h) hf hd hst
    have hr : t = raiseHold m .motorOverload none v := (resume_asserted h ho).trans ht
    have hheld := (hv.held .motorOverload none).resumed
    rw [← hv.held_component .motorOverload none, holdComponent_current hst, ← hr] at hheld
    refine ⟨hheld, ?_, ?_, fun hrun => ?_⟩
    · rw [hr]
      exact hv.held_drive _ _
    · rw [hr]
      exact hv.held_holder _ _
    · simp only [marked, hr]
      exact hv.held_marker _ _ (hbatch hrun)
  case heldShort =>
    rintro ⟨ho, hs⟩ ⟨hc, hst, hdose⟩ hlt
    obtain ⟨hf, hd⟩ := hstill hs
    have hr : t = holdAgain m h (deviated m h s) := resume_asserted h ho
    rw [hr]
    refine holdAgain_short hf hd hdose hst (hcomponent hc) ?_
    rw [deviated_target, deviated_dosed]
    exact hlt
  case heldComplete =>
    rintro ⟨ho, hs⟩ ⟨hc, hst, hdose⟩ hle hor
    obtain ⟨hf, hd⟩ := hstill hs
    have hr : t = holdAgain m h (deviated m h s) := resume_asserted h ho
    have hkept := holdAgain_component hf hd hdose hst (hcomponent hc)
      (resumeStage_leaves hf hd hdose hst (hcomponent hc) (by rw [deviated_target, deviated_dosed]; exact hle)
        (by rw [deviated_target, deviated_dosed]; exact hor))
    rw [deviated_dosed] at hkept
    rw [hr]
    exact hkept
  case heldChelant =>
    rintro ⟨ho, hs⟩ ⟨hc, hst, hdose⟩ ⟨hle, hor⟩ rfl hwater
    obtain rfl := stage_of_chelant hdose
    obtain ⟨hf, hd⟩ := hstill hs
    have hr : t = holdAgain m h (deviated m h s) := resume_asserted h ho
    rw [hr]
    refine holdAgain_water hf hd hst (resumeStage_accepts hdose hst (hcomponent hc) ?_ ?_)
      (by rw [deviated_target]; exact hwater)
    · rw [deviated_target, deviated_dosed]
      exact hle
    · rw [deviated_target, deviated_dosed]
      exact hor
  case heldPour =>
    rintro ⟨ho, hs⟩ hst
    obtain ⟨hf, hd⟩ := hstill hs
    have hr : t = holdAgain m h (deviated m h s) := resume_asserted h ho
    obtain ⟨hclaim, hcall, hcount, hbatches, hentries⟩ := holdAgain_pour hf hd hst
    rw [← hr] at hclaim hcall hcount hbatches hentries
    refine ⟨hclaim, hcall, hcount, fun hcause => ?_⟩
    rw [hbatches, hentries, deviated_same h hcause]
    exact ⟨rfl, rfl⟩
  case deviation =>
    intro hrun stays
    refine ⟨fun hstays => ?_, fun hcause p => ?_, fun hcause p c hp => ?_⟩
    · by_cases hlive : r.live = 0
      · refine flag_of_calm hrun (resume_calm_stays ?_) nofun
        obtain hov | hstage | hl | henough := hstays
        · exact .inl hov
        · exact .inr (.inl hstage)
        · exact absurd hlive hl
        · exact .inr (.inr henough)
      · exact flag_of_calm hrun (resume_calm (fin := true) m h s nofun) fun _ => hlive
    · exact (resume_castAt p).trans (deviated_castAt_other m h s hcause p)
    · have ht : t.castAt p = some (deviatedCast slot r.id s c) := resume_castAt_overdose hcause hrun hp
      refine ⟨fun hother => ?_, fun hslot hid hopen hcred => ?_, fun hslot hid hopen hcred => ?_⟩
      · rw [ht, deviatedCast_other hother]
      · rw [ht, deviatedCast_open hslot hid hopen, if_neg (by simp [hcred])]
      · rw [ht, deviatedCast_open hslot hid hopen, if_pos hcred]
        exact ⟨rfl, congrArg some (evaluateCast_held _ _ hcred rfl)⟩

end Sys2Proof.Proofs
end

section
/-! PROOF. The launch of a hold (R46, R63, R64, Table 4.3): the waiting list of the scale without the mixer, the hold record, and what the launch leaves as it was. -/

namespace Sys2Proof.Proofs

open Sys2Proof.Machine

/-! ### The waiting list (R45, R46) -/

/-- A release puts no mixer on the waiting list. -/
theorem releaseGrant_not_waiting {m : Mixer} {s : State} (h : m ∉ s.arbiter.waiting) :
    m ∉ (releaseGrant s).arbiter.waiting := by
  cases hw : s.arbiter.waiting with
  | nil =>
    rw [releaseGrant_idle hw]
    exact List.not_mem_nil
  | cons k rest =>
    rw [releaseGrant_grants hw, grant_eq]
    exact fun hm => h (hw ▸ List.mem_cons_of_mem k hm)

/-- R46: a mixer that leaves the scale waits for it no more. -/
theorem leaveScale_not_waiting (m : Mixer) (s : State) : m ∉ (leaveScale m s).arbiter.waiting := by
  obtain ⟨-, h⟩ | ⟨-, h⟩ := leaveScale_cases m s
  · rw [h]
    simp
  · rw [h]
    exact releaseGrant_not_waiting (by simp)

/-! ### The stop of a delivery (R40) -/

theorem writeActual_eq (m : Mixer) (c : Component) (v : Nat) (s : State) :
    writeActual m c v s =
      { s with
        store := { s.store with
          batches := (writeActual m c v s).store.batches, damaged := (writeActual m c v s).store.damaged }
        journal := (writeActual m c v s).journal } :=
  updateOwnBatch_eq m _ s

/-- A stop changes the sequencer, its batch record, and counts the reading that it takes. -/
theorem stopDelivery_eq (m : Mixer) (s : State) :
    stopDelivery m s =
      { s with
        mixers := (stopDelivery m s).mixers
        store := { s.store with
          batches := (stopDelivery m s).store.batches, damaged := (stopDelivery m s).store.damaged }
        readings := (stopDelivery m s).readings, outputs := (stopDelivery m s).outputs
        journal := (stopDelivery m s).journal } := by
  obtain h | ⟨ch, h | ⟨c, h⟩ | h⟩ := stopDelivery_cases m s
  · rw [h]
  · rw [h]
    rfl
  · rw [h, charge, writeActual_eq]
    rfl
  · rw [h, chargeCement, writeActual_eq]
    rfl

theorem stopDelivery_weighing {m : Mixer} {s : State} {d : Delivery} (hd : (s.seq m).delivery = some d)
    (hw : d.channel = .weighing) : stopDelivery m s = endDelivery m (emit (.stopDelivery m .weighing) s) := by
  simp only [stopDelivery, hd, hw]

/-- R46, R47: with no delivery in progress, or during a weighing, a stop charges nothing. -/
theorem stopDelivery_charges_nothing {m : Mixer} {s : State}
    (h : (s.seq m).delivery = none ∨ ∃ d, (s.seq m).delivery = some d ∧ d.channel = .weighing) :
    ((stopDelivery m s).seq m).dosed = (s.seq m).dosed ∧
    ((stopDelivery m s).seq m).cementInDrum = (s.seq m).cementInDrum ∧ (stopDelivery m s).store = s.store := by
  obtain h | ⟨d, hd, hw⟩ := h
  · rw [stopDelivery_none h]
    exact ⟨rfl, rfl, rfl⟩
  · rw [stopDelivery_weighing hd hw, endDelivery, withSeq_seq, emit_seq]
    exact ⟨rfl, rfl, rfl⟩

/-! ### The launch (R63, R64) -/

/-- R63: the component of a hold record: none in MIX, POUR and DISCHARGING, the named one before the one in course. -/
theorem holdComponent_eq (current named : Option Component) (st : Stage) :
    holdComponent current named st =
      if st = .mix ∨ st = .pour ∨ st = .discharging then none else if named.isSome then named else current := by
  cases named with
  | none => cases st <;> rfl
  | some c => cases st <;> rfl

section launch

variable (m : Mixer) (s : State) (cause : HoldCause) (named : Option Component) (st : Stage)

/-- The hold record written at a launch, as the mixer stands before it but for the amount delivered. -/
theorem stopDelivery_holdRecord :
    let component := holdComponent (s.seq m).component named st
    holdRecord m cause named st (stopDelivery m s) =
      { cause := cause, component := component, stage := st
        dosed := component.map fun _ => ((stopDelivery m s).seq m).dosed, poured := poured m s, time := s.clock } := by
  obtain ⟨_, _, _, hq⟩ := stopDelivery_seq m s
  obtain ⟨-, -, -, -, hclock⟩ := stopDelivery_frame m s
  have hcomponent : ((stopDelivery m s).seq m).component = (s.seq m).component := by rw [hq]
  rw [holdRecord, hcomponent, (stopDelivery_sameBatch m s).poured, hclock]

theorem halted_eq :
    halted m s =
      { stopDelivery m s with
        mixers := (halted m s).mixers, stations := (halted m s).stations, arbiter := (halted m s).arbiter
        spaceList := (halted m s).spaceList, outputs := (halted m s).outputs } := by
  obtain h | h := halted_cases m s
  · rw [h, stopCycle_eq, leaveScale_eq]
    rfl
  · rw [h, leaveScale_eq]
    rfl

theorem halted_not_waiting : m ∉ (halted m s).arbiter.waiting := by
  obtain h | h := halted_cases m s
  · rw [h, stopCycle_arbiter]
    exact leaveScale_not_waiting m _
  · rw [h]
    exact leaveScale_not_waiting m _

/-- R64: what a launch changes besides the stop of the delivery. -/
theorem launchHoldAt_changes :
    let t := launchHoldAt m cause named st s
    t = { stopDelivery m s with
        mixers := t.mixers, stations := t.stations, arbiter := t.arbiter, spaceList := t.spaceList
        plantLink := t.plantLink, outputs := t.outputs } := by
  dsimp only
  rw [launchHoldAt_eq, raise_eq, heldState, setDrive_eq, halted_eq]
  rfl

theorem launchHoldAt_not_waiting : m ∉ (launchHoldAt m cause named st s).arbiter.waiting := by
  rw [launchHoldAt_eq, raise_arbiter, heldState, withSeq_arbiter, setDrive_arbiter, withSeq_arbiter]
  exact halted_not_waiting m s

/-- R64, Table 4.3: a launch leaves the Transit Queue and the Order Queue. -/
theorem launchHoldAt_queues :
    (launchHoldAt m cause named st s).transit = s.transit ∧ (launchHoldAt m cause named st s).orders = s.orders := by
  rw [launchHoldAt_changes, stopDelivery_eq]
  exact ⟨rfl, rfl⟩

end launch

/-- Settles O31: the sequencer by `launchHoldAt_seq`, the scale by `leaveScale_not_waiting`, and the rest by the form of the
launch after the stop of the delivery. -/
theorem holdLaunchFollowsTable : Obligations.HoldLaunchFollowsTable := by
  intro m cause named st s hreject q t component
  have hq : t.seq m = _ := launchHoldAt_seq m s cause named st
  have hstore : t.store = (stopDelivery m s).store := launchHoldAt_store m s cause named st
  obtain ⟨_, _, _, hstop⟩ := stopDelivery_seq m s
  obtain ⟨-, -, hentries, hmarkers, -⟩ := stopDelivery_frame m s
  obtain ⟨htransit, horders⟩ := launchHoldAt_queues m s cause named st
  refine ⟨by rw [hq], by rw [hq], by rw [hq], ?delivery, by rw [hq], by rw [hq], by rw [hq], by rw [hq],
    by rw [hq, hstop], by rw [hq, hstop], by rw [hq, hstop], ?marker, launchHoldAt_holder m s cause named st,
    launchHoldAt_not_waiting m s cause named st, ?hold, ?charged, ?entries, htransit, horders,
    launchHoldAt_stable (hallKept_stable s) m cause named st (hallKept_refl s)⟩
  case delivery =>
    rw [hq]
    exact stopDelivery_delivery hreject
  case marker => rw [State.marker, State.marker, hstore, hmarkers]
  case hold =>
    have hcomponent : component = holdComponent (s.seq m).component named st := (holdComponent_eq ..).symm
    rw [hq, hcomponent, stopDelivery_holdRecord]
  case charged =>
    intro h
    rw [hq, hstore]
    exact stopDelivery_charges_nothing h
  case entries => rw [hstore, hentries]

end Sys2Proof.Proofs
end

section
/-! PROOF. Exchanges on the Station Link (R120, R126): what a poll sends, how an exchange ends, and the start of a hunt. -/

namespace Sys2Proof.Proofs

open Sys2Proof.Machine

/-! ### The start of a hunt (R126) -/

theorem startHunt_without_probe {s : State} (h : ∀ a, s.stationLink.exchange ≠ some (.probe a)) :
    startHunt s = { s with stationLink := { s.stationLink with hunt := some Hunt.first } } := by
  cases hx : s.stationLink.exchange with
  | none => simp [startHunt, hx]
  | some e =>
    cases e with
    | poll a => simp [startHunt, hx]
    | probe a => exact absurd hx (h a)

theorem huntRequest_starts {s : State} (h : s.stationLink.hunt = none) : huntRequest s = (startHunt s, .taken) := by
  unfold huntRequest
  rw [h]

theorem huntRequest_busy {s : State} (h : s.stationLink.hunt.isSome = true) : huntRequest s = (s, .refused .busy .empty) := by
  obtain ⟨g, hg⟩ := Option.isSome_iff_exists.1 h
  unfold huntRequest
  rw [hg]

/-- Settles O48: with no probe on the line, the start of a hunt changes the hunt alone. -/
theorem huntStartsAtAddressOne : Obligations.HuntStartsAtAddressOne := by
  intro tag s hfree
  refine ⟨fun hnone hprobe => ?starts, fun hsome => ?busy⟩
  case starts =>
    have hact : act .hunt (s.holding tag .hunt) =
        ({ s.holding tag .hunt with stationLink := { s.stationLink with hunt := some Hunt.first } }, .taken) :=
      (huntRequest_starts (s := s.holding tag .hunt) hnone).trans
        (congrArg (fun t => (t, Reply.taken)) (startHunt_without_probe (s := s.holding tag .hunt) hprobe))
    obtain ⟨-, -, -, -, hreply, hsending, -⟩ := id hfree
    exact request_completes _ tag .hunt _ s _ { s with stationLink := { s.stationLink with hunt := some Hunt.first } } []
      rfl hfree hact rfl hsending hreply rfl List.nil_prefix
  case busy => exact request_unchanged rfl hfree (huntRequest_busy (s := s.holding tag .hunt) hsome)

/-! ### The poll round (R120) -/

/-- What is left of the round, with the addresses no longer bound left out, or a new round where nothing is left. -/
def pollOrder (s : State) : List Nat :=
  let left := s.stationLink.round.filter fun a => (bayOfAddress a s).isSome
  if left = [] then boundAddresses s else left

theorem pollNext_none {s : State} (h : pollOrder s = []) :
    pollNext s = { s with stationLink := { s.stationLink with exchange := none, pollDue := false } } := by
  unfold pollOrder at h
  unfold pollNext
  dsimp only at h ⊢
  rw [h]

theorem pollNext_polls {s : State} {a : Nat} {rest : List Nat} (h : pollOrder s = a :: rest) :
    pollNext s =
      { s with
        stationLink := { s.stationLink with exchange := some (.poll a), round := rest, pollDue := false }
        outputs := s.outputs ++ [.station (.poll a) (encodeStation (.poll a))] } := by
  unfold pollOrder at h
  unfold pollNext
  dsimp only at h ⊢
  rw [h]
  rfl

/-! ### A poll that is due when the line falls free (log 16) -/

theorem settle_free {s : State} (h : s.stationLink.exchange = none) :
    settle s = probeNext (if s.stationLink.pollDue then pollNext (flush s) else flush s) := by
  have hdue : (flush s).stationLink.pollDue = s.stationLink.pollDue := by rw [flush_eq]
  unfold settle
  rw [h]
  dsimp only
  rw [hdue]

theorem pollOrder_flush (s : State) : pollOrder (flush s) = pollOrder s := by
  rw [flush_eq]
  rfl

theorem settle_polls {s : State} {a : Nat} {rest : List Nat} (hx : s.stationLink.exchange = none)
    (hdue : s.stationLink.pollDue = true) (h : pollOrder s = a :: rest) :
    settle s =
      { s with
        stationLink := { s.stationLink with
          exchange := some (.poll a), round := rest, pollDue := false, waitingActuations := [] }
        outputs := s.outputs ++ s.stationLink.waitingActuations.map (fun r => .station r (encodeStation r)) ++
          [.station (.poll a) (encodeStation (.poll a))] } := by
  rw [settle_free hx, if_pos hdue, pollNext_polls ((pollOrder_flush s).trans h), flush_eq]
  rfl

/-- R120: with no address bound, a poll that is due is dropped. -/
theorem settle_drops_poll {s : State} (hx : s.stationLink.exchange = none) (hdue : s.stationLink.pollDue = true)
    (h : pollOrder s = []) : settle s = settle { s with stationLink := { s.stationLink with pollDue := false } } := by
  have hleft : pollNext (flush s) = flush { s with stationLink := { s.stationLink with pollDue := false } } := by
    rw [pollNext_none ((pollOrder_flush s).trans h), flush_eq, flush_eq, ← hx]
  rw [settle_free hx, if_pos hdue, hleft]
  exact (settle_free (s := { s with stationLink := { s.stationLink with pollDue := false } }) hx).symm

/-! ### The commands of a poll -/

theorem pollCommand_free {s : State} (h : s.stationLink.exchange = none) : pollCommand s = pollNext s := by
  unfold pollCommand
  rw [h]

theorem pollCommand_probe {s : State} {b : Nat} (h : s.stationLink.exchange = some (.probe b)) :
    pollCommand s = { s with stationLink := { s.stationLink with pollDue := true } } := by
  unfold pollCommand
  rw [h]

theorem pollCommand_poll {s : State} {b : Nat} (h : s.stationLink.exchange = some (.poll b)) :
    pollCommand s = { s with stationLink := { s.stationLink with exchange := none, pollDue := true } } := by
  unfold pollCommand
  rw [h]

theorem pollSilent_poll {s : State} {a : Nat} (h : s.stationLink.exchange = some (.poll a)) : pollSilent s = lineFree s := by
  unfold pollSilent
  rw [h]

section poll

variable {s : State} (hp : s.powered = true)

include hp

theorem poll_completes {x : State} {o : List Output} (hx : SameButSent x (pollCommand (begin s)))
    (ho : o <+: (pollCommand (begin s)).outputs) : Completes .poll s x o :=
  event_completes (f := pollCommand) rfl hp (pollCommand_kept (.refl _)) hx ho

/-- R120: with the line free, the next address of the round is polled. -/
theorem poll_polls_next {a : Nat} {rest : List Nat} (h : s.stationLink.exchange = none) (hn : pollOrder s = a :: rest) :
    Completes .poll s
      { s with stationLink := { s.stationLink with exchange := some (.poll a), round := rest, pollDue := false } }
      [.station (.poll a) (encodeStation (.poll a))] := by
  have hmade := (pollCommand_free (s := begin s) h).trans (pollNext_polls hn)
  refine poll_completes hp ?_ ?_
  · rw [hmade]
    exact ⟨_, _, _, rfl⟩
  · rw [hmade]
    exact List.prefix_refl _

theorem poll_with_none_bound (h : s.stationLink.exchange = none) (hn : pollOrder s = []) :
    Completes .poll s { s with stationLink := { s.stationLink with pollDue := false } } [] := by
  refine poll_completes hp ?_ List.nil_prefix
  rw [pollCommand_free (s := begin s) h, pollNext_none (s := begin s) hn, ← h]
  exact ⟨_, _, _, rfl⟩

/-- R120: a poll waits for the end of a probe. -/
theorem poll_waits_for_probe {b : Nat} (h : s.stationLink.exchange = some (.probe b)) :
    Completes .poll s { s with stationLink := { s.stationLink with pollDue := true } } [] := by
  refine poll_completes hp ?_ List.nil_prefix
  rw [pollCommand_probe (s := begin s) h]
  exact ⟨_, _, _, rfl⟩

/-- R120: an unanswered poll leaves the line to what waits, with the next poll due. -/
theorem exec_poll_over_poll {b : Nat} (h : s.stationLink.exchange = some (.poll b)) :
    exec .poll s =
      .next (settle { begin s with stationLink := { s.stationLink with exchange := none, pollDue := true } }) :=
  (command_powered pollCommand s hp).trans (congrArg (fun t => Host.Outcome.next (settle t)) (pollCommand_poll (s := begin s) h))

theorem poll_over_poll_with_none_bound {b : Nat} (h : s.stationLink.exchange = some (.poll b)) (hn : pollOrder s = []) :
    Completes .poll s { s with stationLink := { s.stationLink with exchange := none, pollDue := false } } [] := by
  have hdrop := settle_drops_poll
    (s := { begin s with stationLink := { s.stationLink with exchange := none, pollDue := true } }) rfl rfl hn
  exact settle_completes .poll s _ _ [] ((exec_poll_over_poll hp h).trans (congrArg Host.Outcome.next hdrop)) rfl rfl
    List.nil_prefix

end poll

/-- Settles O50: each command by what its operation makes of the line; a poll over a poll by `settle`. -/
theorem pollsAndAnswers : Obligations.PollsAndAnswers := by
  intro a b rest bytes s hp bound left next poll
  have hround : next = pollOrder s := rfl
  refine ⟨?answered, ?other, ?silent, ?discarded, fun h hn => poll_polls_next hp h (hround ▸ hn),
    fun h hn => poll_with_none_bound hp h (hround ▸ hn), fun h => poll_waits_for_probe hp h, ?again,
    fun h hn => poll_over_poll_with_none_bound hp h (hround ▸ hn)⟩
  case answered =>
    intro h
    refine event_completes (f := idleArrives a) rfl hp (idleArrives_kept a (.refl _)) ?_ List.nil_prefix
    rw [show idleArrives a (begin s) = lineFree (begin s) from if_pos h]
    exact ⟨_, _, _, rfl⟩
  case other => exact fun h => event_ignored (f := idleArrives a) rfl hp (if_neg h)
  case silent =>
    intro h
    refine event_completes (f := pollSilent) rfl hp (pollSilent_kept (.refl _)) ?_ List.nil_prefix
    rw [pollSilent_poll (s := begin s) h]
    exact ⟨_, _, _, rfl⟩
  case discarded => exact event_ignored (f := fun t => t) rfl hp rfl
  case again =>
    intro h hn
    refine ⟨_, exec_poll_over_poll hp h, ?_⟩
    rw [settle_polls rfl rfl (show pollOrder _ = a :: rest from hround ▸ hn)]
    rfl

end Sys2Proof.Proofs
end

section
/-! PROOF. The Cure Table under an operation that goes through positions, and the credit of a condition interval (R150). -/

namespace Sys2Proof.Proofs

open Sys2Proof.Machine

/-! ### An operation on each of a list of positions -/

/-- An operation that makes `g` of the cast at its position, by what the entries do not hold, makes it of the cast at each
of the positions gone through, and of no other. -/
theorem foldl_castAt {f : Nat → State → State} {g : State → CastPart → CastPart}
    (hframe : ∀ p s, OnlyEntries s (f p s)) (hsame : ∀ p s, (f p s).castAt p = (s.castAt p).map (g s))
    (hother : ∀ p q s, q ≠ p → (f p s).castAt q = s.castAt q) (hg : ∀ s t, OnlyEntries s t → g t = g s)
    {ps : List Nat} (hn : ps.Nodup) (q : Nat) (s : State) :
    (ps.foldl (fun t p => f p t) s).castAt q = if q ∈ ps then (s.castAt q).map (g s) else s.castAt q := by
  induction ps generalizing s with
  | nil => rfl
  | cons p ps ih =>
    obtain ⟨hp, hn⟩ := List.nodup_cons.1 hn
    rw [List.foldl_cons, ih hn, hg _ _ (hframe p s)]
    by_cases hq : q = p
    · subst hq
      rw [if_neg hp, if_pos List.mem_cons_self, hsame]
    · simp only [List.mem_cons, hq, false_or, hother p q s hq]

theorem foldl_onlyEntries {f : Nat → State → State} (hframe : ∀ p s, OnlyEntries s (f p s)) (ps : List Nat) (s : State) :
    OnlyEntries s (ps.foldl (fun t p => f p t) s) :=
  foldl_keeps ps _ (fun p t h => onlyEntries_trans h (hframe p t)) (onlyEntries_refl s)

/-! ### The credit of an interval (R150) -/

/-- R150: what an interval makes of a cast of its bay, with the evaluation that follows. -/
def creditedCast (i : Interval) (s : State) (c : CastPart) : CastPart :=
  if c.state.credited ∧ (c.placed.any fun t => decide (t < i.arrival)) then
    evaluateCast (s.cls c.cls) s.clock (creditCast (s.cls c.cls) i c)
  else c

theorem creditedCast_eq (i : Interval) (s : State) (c : CastPart) :
    creditedCast i s c =
      if c.state.credited = true ∧ (∃ p, c.placed = some p ∧ p < i.arrival) then
        evaluateCast (s.cls c.cls) s.clock (creditCast (s.cls c.cls) i c)
      else c := by
  have hplaced : (c.placed.any fun t => decide (t < i.arrival)) = true ↔ ∃ p, c.placed = some p ∧ p < i.arrival := by
    simp only [Option.any_eq_true, decide_eq_true_eq]
  exact ite_congr (propext (and_congr_right' hplaced)) (fun _ => rfl) (fun _ => rfl)

theorem creditedCast_congr (i : Interval) {s t : State} (h : OnlyEntries s t) : creditedCast i t = creditedCast i s := by
  funext c
  have hcls : t.cls c.cls = s.cls c.cls := by
    unfold State.cls
    rw [h]
  have hclock : t.clock = s.clock := by rw [h]
  unfold creditedCast
  rw [hcls, hclock]

theorem creditCast_cls (k : Option ClassRecord) (i : Interval) (c : CastPart) : (creditCast k i c).cls = c.cls := by
  unfold creditCast
  dsimp only
  split
  · rfl
  · rfl
  · rfl

theorem creditAt_onlyEntries (i : Interval) (p : Nat) (s : State) : OnlyEntries s (creditAt i p s) := by
  unfold creditAt
  split
  · exact onlyEntries_refl s
  · split
    · exact onlyEntries_trans (putCast_onlyEntries p _ s) (evaluateAt_onlyEntries p _)
    · exact onlyEntries_refl s

theorem creditAt_castAt (i : Interval) (p : Nat) (s : State) :
    (creditAt i p s).castAt p = (s.castAt p).map (creditedCast i s) := by
  unfold creditAt
  cases hc : s.castAt p with
  | none => exact hc
  | some c =>
    dsimp only [Option.map_some, creditedCast]
    split
    · have hput := putCast_onlyEntries p (creditCast (s.cls c.cls) i c) s
      rw [evaluateAt_castAt (putCast_castAt _ hc), creditCast_cls, hput]
      rfl
    · exact hc

theorem creditAt_castAt_other (i : Interval) (p q : Nat) (s : State) (h : q ≠ p) :
    (creditAt i p s).castAt q = s.castAt q := by
  unfold creditAt
  split
  · rfl
  · split
    · exact (evaluateAt_castAt_other h).trans (putCast_castAt_other _ h)
    · rfl

theorem creditInterval_onlyEntries (i : Interval) (s : State) : OnlyEntries s (creditInterval i s) :=
  foldl_onlyEntries (creditAt_onlyEntries i) _ s

/-- R150: the interval reaches each cast of its bay once, and no other cast. -/
theorem creditInterval_castAt (i : Interval) (p : Nat) (s : State) :
    (creditInterval i s).castAt p =
      if p ∈ bayPositions i.bay then (s.castAt p).map (creditedCast i s) else s.castAt p :=
  foldl_castAt (creditAt_onlyEntries i) (creditAt_castAt i) (creditAt_castAt_other i)
    (fun _ _ h => creditedCast_congr i h) List.nodup_range' p s

end Sys2Proof.Proofs
end

section
/-! PROOF. Report Aligners (R130 to R138): a report that is set aside, a substitute interval, the cut, and the expiry of the late timer. -/

namespace Sys2Proof.Proofs

open Sys2Proof.Machine

/-! ### The aligner of a bay -/

theorem withAligner_aligner {b : Nat} (hb : 1 ≤ b ∧ b ≤ 12) (f : Aligner → Aligner) (s : State) :
    (withAligner b f s).aligner b = f (s.aligner b) := at1_put1_same _ _ _ _ hb

theorem withAligner_withAligner {b : Nat} (hb : 1 ≤ b ∧ b ≤ 12) (f g : Aligner → Aligner) (s : State) :
    withAligner b f (withAligner b g s) = withAligner b (fun a => f (g a)) s := by
  have h : put1 (put1 s.aligners b (g (s.aligner b))) b (f ((withAligner b g s).aligner b)) =
      put1 s.aligners b (f (g (s.aligner b))) := by
    rw [put1_put1, withAligner_aligner hb]
  exact congrArg (fun v => { s with aligners := v }) h

/-- What becomes of an aligner depends on how it stands. -/
theorem withAligner_congr {b : Nat} {f g : Aligner → Aligner} {s : State} (h : f (s.aligner b) = g (s.aligner b)) :
    withAligner b f s = withAligner b g s := by
  unfold withAligner
  rw [h]

theorem withAligner_castAt (b : Nat) (f : Aligner → Aligner) (s : State) (p : Nat) :
    (withAligner b f s).castAt p = s.castAt p := rfl

theorem onlyEntries_aligner {s t : State} (b : Nat) (h : OnlyEntries s t) : t.aligner b = s.aligner b := by
  unfold State.aligner
  rw [h]

theorem withAligner_onlyEntries {s t : State} (b : Nat) (f : Aligner → Aligner) (h : OnlyEntries s t) :
    OnlyEntries (withAligner b f s) (withAligner b f t) := by
  have ha := onlyEntries_aligner b h
  unfold OnlyEntries withAligner at *
  rw [ha, h]

/-! ### A report of the polled station (R120) -/

theorem reportArrives_polled {b : Nat} {r : Report} {s : State} (hx : s.stationLink.exchange = some (.poll r.address))
    (hb : bayOfAddress r.address s = some b) : reportArrives r s = takeReport b r (lineFree s) := by
  unfold reportArrives
  rw [if_pos hx, hb]

theorem report_completes {b : Nat} {r : Report} {s x : State} (hp : s.powered = true)
    (hx : s.stationLink.exchange = some (.poll r.address)) (hb : bayOfAddress r.address s = some b)
    (h : SameButSent x (takeReport b r (lineFree (begin s)))) : Completes (.conditionReport r) s x [] := by
  refine event_completes (f := reportArrives r) rfl hp (reportArrives_kept r (.refl _)) ?_ List.nil_prefix
  rw [reportArrives_polled (s := begin s) hx hb]
  exact h

/-! ### A misinserted report (R130 (3), R131) -/

theorem takeReport_misinserted {b : Nat} {e : BitVec 4} {r : Report} {s : State} (hstate : (s.aligner b).state = .locked)
    (he : (s.aligner b).expected = some e) (hk : 7 ≤ (r.sequence - e).toNat) : takeReport b r s = misinsert b r s := by
  unfold takeReport reportLocked
  rw [hstate, he]
  dsimp only [Option.getD_some]
  rw [if_neg (by omega), if_neg (by omega)]

theorem misinsert_unmarked {b : Nat} {r : Report} {s : State} (h : (s.aligner b).misinserted = false) :
    misinsert b r s =
      withAligner b (fun a =>
        { a with
          counters := { (s.aligner b).counters with misinserted := (s.aligner b).counters.misinserted + 1 }
          misinserted := true }) s := by
  refine withAligner_congr ?_
  dsimp only
  rw [if_neg (by rw [h]; simp)]

theorem misinsert_marked {b : Nat} {r : Report} {s : State} (h : (s.aligner b).misinserted = true) :
    misinsert b r s =
      withAligner b (fun a =>
        { a with
          counters := { (s.aligner b).counters with misinserted := (s.aligner b).counters.misinserted + 1 }
          misinserted := false, state := .syncing, expected := none, candidate := some r.sequence }) s := by
  refine withAligner_congr ?_
  dsimp only
  rw [if_pos h]

/-! ### A report in SYNCING or BLIND (R132) -/

theorem takeReport_candidate {b : Nat} {r : Report} {s : State}
    (h : (s.aligner b).state = .syncing ∨ (s.aligner b).state = .blind) : takeReport b r s = reportCandidate b r s := by
  unfold takeReport
  obtain h | h := h
  · rw [h]
  · rw [h]

theorem reportCandidate_fault {b : Nat} {r : Report} {s : State} (h : r.fault = true) : reportCandidate b r s = s :=
  if_pos h

theorem reportCandidate_new {b : Nat} {r : Report} {s : State} (hf : r.fault = false)
    (h : (s.aligner b).candidate ≠ some (r.sequence - 1)) :
    reportCandidate b r s = withAligner b (fun a => { a with candidate := some r.sequence }) s := by
  unfold reportCandidate
  rw [if_neg (by rw [hf]; simp), if_neg h]

/-- Settles O53: the report reaches the aligner on a free line, and each case is an update of the aligner or nothing. -/
theorem reportOutOfPlaceIsSetAside : Obligations.ReportOutOfPlaceIsSetAside := by
  intro b e r s hp _ _ hx hb counted
  have completes : ∀ {x : State}, SameButSent x (takeReport b r (lineFree (begin s))) →
      Completes (.conditionReport r) s x [] := report_completes hp hx hb
  refine ⟨?unmarked, ?marked, ?candidate, ?fault⟩
  case unmarked =>
    intro hstate he hk hm
    apply completes
    rw [takeReport_misinserted (s := lineFree (begin s)) hstate he hk, misinsert_unmarked (s := lineFree (begin s)) hm]
    exact ⟨_, _, _, rfl⟩
  case marked =>
    intro hstate he hk hm
    apply completes
    rw [takeReport_misinserted (s := lineFree (begin s)) hstate he hk, misinsert_marked (s := lineFree (begin s)) hm]
    exact ⟨_, _, _, rfl⟩
  case candidate =>
    intro hstate hf hc
    apply completes
    rw [takeReport_candidate (s := lineFree (begin s)) hstate, reportCandidate_new (s := lineFree (begin s)) hf hc]
    exact ⟨_, _, _, rfl⟩
  case fault =>
    intro hstate hf
    apply completes
    rw [takeReport_candidate (s := lineFree (begin s)) hstate, reportCandidate_fault hf]
    exact ⟨_, _, _, rfl⟩

/-! ### A substitute (R135) -/

/-- R135, R136: an aligner with one substitute more in its run. -/
def runOn (a : Aligner) : Aligner :=
  { a with
    run := min Config.runMax (a.run + 1), counters := { a.counters with substituted := a.counters.substituted + 1 } }

/-- R135: the interval that is inserted next. -/
def substituteInterval (b : Nat) (s : State) : Interval :=
  let v := substituteOf (min Config.runMax ((s.aligner b).run + 1)) (s.aligner b).lastGood
  { bay := b, kind := v.1, readings := v.2, length := (s.settings b).period, arrival := s.clock }

theorem substitute_eq (b : Nat) (s : State) :
    substitute b s = creditInterval (substituteInterval b s) (withAligner b runOn s) := rfl

theorem substitute_onlyEntries (b : Nat) (s : State) : OnlyEntries (withAligner b runOn s) (substitute b s) := by
  rw [substitute_eq]
  exact creditInterval_onlyEntries _ _

theorem substitute_castAt (b p : Nat) (s : State) :
    (substitute b s).castAt p =
      if p ∈ bayPositions b then (s.castAt p).map (creditedCast (substituteInterval b s) s) else s.castAt p :=
  creditInterval_castAt (substituteInterval b s) p (withAligner b runOn s)

/-- R135: without a last good reading every substitute is a datum interval, and from the third place on. -/
theorem substituteOf_datum {run : Nat} {last : Option (Int × Nat)} (h : last = none ∨ 3 ≤ run) :
    substituteOf run last = (.datum, none) := by
  unfold substituteOf
  obtain rfl | h := h
  · rfl
  · cases last with
    | none => rfl
    | some v => exact if_neg (by omega)

theorem substituteOf_holdLast {run : Nat} (v : Int × Nat) (h : run ≤ 2) : substituteOf run (some v) = (.holdLast, some v) :=
  if_pos h

/-! ### The test of the cut limit (R138) -/

/-- R138: an aligner made BLIND. -/
def cutOff (a : Aligner) : Aligner := { a with state := .blind, lateTimer := none, expected := none, candidate := none }

theorem cutTest_cut {b : Nat} {s : State} (h : (s.settings b).cutLimit ≤ (s.aligner b).run) :
    OnlyEntries (withAligner b cutOff s) (cutTest b s) := by
  unfold cutTest
  dsimp only
  rw [if_pos h]
  exact raise_onlyEntries _ _

theorem cutTest_castAt (b p : Nat) (s : State) : (cutTest b s).castAt p = s.castAt p := by
  unfold cutTest
  dsimp only
  split
  · rw [raise_castAt]
    rfl
  · rfl

theorem cutTest_below {b : Nat} {s : State} (h : (s.aligner b).run < (s.settings b).cutLimit) : cutTest b s = s :=
  if_neg (Nat.not_le.2 h)

/-! ### A late-timer expiry (R136) -/

/-- R136: the aligner as an expiry leaves it for the test of the cut limit. -/
def expiredAligner (a : Aligner) : Aligner :=
  { a with
    expected := a.expected.map (· + 1), run := min Config.runMax (a.run + 1)
    counters := { a.counters with late := a.counters.late + 1, substituted := a.counters.substituted + 1 } }

/-- R136: the state in which an expiry tests the cut limit. -/
def expiredState (b : Nat) (s : State) : State :=
  withAligner b (fun a => { a with expected := a.expected.map (· + 1) })
    (substitute b (withAligner b (fun a => { a with counters := { a.counters with late := a.counters.late + 1 } }) s))

theorem lateExpires_early {b : Nat} {s : State} (h : due s.oscillator (s.aligner b).lateTimer = false) :
    lateExpires b s = s := if_neg (Bool.eq_false_iff.1 h)

theorem lateExpires_due {b : Nat} {s : State} (h : due s.oscillator (s.aligner b).lateTimer = true) :
    lateExpires b s =
      if ((cutTest b (expiredState b s)).aligner b).state = .blind then cutTest b (expiredState b s)
      else startLate b (cutTest b (expiredState b s)) := if_pos h

section expiry

variable {b : Nat} (hb : 1 ≤ b ∧ b ≤ 12) (s : State)

include hb

theorem expiredState_onlyEntries : OnlyEntries (withAligner b expiredAligner s) (expiredState b s) := by
  have h := withAligner_onlyEntries b (fun a => { a with expected := a.expected.map (· + 1) }) (substitute_onlyEntries b
    (withAligner b (fun a => { a with counters := { a.counters with late := a.counters.late + 1 } }) s))
  rw [withAligner_withAligner hb, withAligner_withAligner hb] at h
  exact h

theorem expiredState_aligner : (expiredState b s).aligner b = expiredAligner (s.aligner b) :=
  (onlyEntries_aligner b (expiredState_onlyEntries hb s)).trans (withAligner_aligner hb _ s)

theorem expiredState_settings : (expiredState b s).settings b = s.settings b := by
  rw [expiredState_onlyEntries hb s]
  rfl

/-- R135, R150: the casts are credited with the substitute that the run calls for. -/
theorem expiredState_castAt (p : Nat) :
    (expiredState b s).castAt p =
      if p ∈ bayPositions b then (s.castAt p).map (creditedCast (substituteInterval b s) s) else s.castAt p := by
  have hi : substituteInterval b
      (withAligner b (fun a => { a with counters := { a.counters with late := a.counters.late + 1 } }) s) =
      substituteInterval b s := by
    unfold substituteInterval
    rw [withAligner_aligner hb]
    rfl
  rw [expiredState, withAligner_castAt, substitute_castAt, hi]
  rfl

variable {s} (hdue : due s.oscillator (s.aligner b).lateTimer = true)

include hdue

/-- R138: the run has reached the cut limit. -/
theorem lateExpires_cut (hcut : (s.settings b).cutLimit ≤ (expiredAligner (s.aligner b)).run) :
    OnlyEntries (withAligner b (fun a => cutOff (expiredAligner a)) s) (lateExpires b s) := by
  have hstate := expiredState_onlyEntries hb s
  have hblind : OnlyEntries (withAligner b (fun a => cutOff (expiredAligner a)) s) (cutTest b (expiredState b s)) := by
    rw [← withAligner_withAligner hb]
    refine onlyEntries_trans (withAligner_onlyEntries b cutOff hstate) (cutTest_cut ?_)
    rw [expiredState_aligner hb, expiredState_settings hb]
    exact hcut
  have hend : ((cutTest b (expiredState b s)).aligner b).state = .blind := by
    rw [onlyEntries_aligner b hblind, withAligner_aligner hb]
    rfl
  rw [lateExpires_due hdue, if_pos hend]
  exact hblind

/-- R136: below the cut limit the timer is started again. -/
theorem lateExpires_below (hstate : (s.aligner b).state ≠ .blind)
    (hbelow : (expiredAligner (s.aligner b)).run < (s.settings b).cutLimit) :
    OnlyEntries (withAligner b (fun a =>
      { expiredAligner a with
        lateTimer := some (s.oscillator + ((s.settings b).period + (s.settings b).period / 2)) }) s)
      (lateExpires b s) := by
  have haligner := expiredState_aligner hb s
  have hsettings := expiredState_settings hb s
  have hstays : cutTest b (expiredState b s) = expiredState b s := cutTest_below (by rw [haligner, hsettings]; exact hbelow)
  have hoscillator : (expiredState b s).oscillator = s.oscillator := by rw [expiredState_onlyEntries hb s]; rfl
  rw [lateExpires_due hdue, hstays, haligner, if_neg (show (expiredAligner (s.aligner b)).state ≠ .blind from hstate),
    startLate, hsettings, ahead, hoscillator]
  have h := withAligner_onlyEntries b (fun a =>
    { a with lateTimer := some (s.oscillator + ((s.settings b).period + (s.settings b).period / 2)) })
    (expiredState_onlyEntries hb s)
  rw [withAligner_withAligner hb] at h
  exact h

theorem lateExpires_castAt (p : Nat) :
    (lateExpires b s).castAt p =
      if p ∈ bayPositions b then (s.castAt p).map (creditedCast (substituteInterval b s) s) else s.castAt p := by
  have hcast := (cutTest_castAt b p (expiredState b s)).trans (expiredState_castAt hb s p)
  rw [lateExpires_due hdue]
  split
  · exact hcast
  · exact hcast

end expiry

/-- An update of an aligner with a change of entries leaves the queues, the mixers, the bays, the batches and the settings. -/
theorem aligner_update_frame {b : Nat} {f : Aligner → Aligner} {s t : State} (h : OnlyEntries (withAligner b f s) t) :
    t.orders = s.orders ∧ t.transit = s.transit ∧ t.mixers = s.mixers ∧ t.bays = s.bays ∧
    t.store.batches = s.store.batches ∧ t.store.settings = s.store.settings := by
  rw [h]
  exact ⟨rfl, rfl, rfl, rfl, rfl, rfl⟩

theorem settle_onlyEntries (s : State) : OnlyEntries s (settle s) := by
  unfold OnlyEntries
  rw [settle_eq]

/-- Settles O54: the aligner by `lateExpires_cut` and `lateExpires_below`, the casts by `lateExpires_castAt`; the rest of the
state is as it was in either case. -/
theorem lateTimerExpirySubstitutes : Obligations.LateTimerExpirySubstitutes := by
  refine ⟨?due, ?early, fun run v =>
    ⟨substituteOf_datum (.inl rfl), substituteOf_holdLast v, fun h => substituteOf_datum (.inr h)⟩⟩
  case early => exact fun b s hp h => event_ignored (f := lateExpires b) rfl hp (lateExpires_early (s := begin s) h)
  case due =>
    intro b s hp h1 h12 hdue hstate run value interval credited
    have hb : 1 ≤ b ∧ b ≤ 12 := ⟨h1, h12⟩
    have casts : ∀ p, (settle (lateExpires b (begin s))).castAt p =
        if p ∈ bayPositions b then (s.castAt p).map (creditedCast (substituteInterval b s) s) else s.castAt p := by
      intro p
      rw [State.castAt, State.entry, settle_store]
      exact lateExpires_castAt hb (s := begin s) hdue p
    have hcredited : creditedCast (substituteInterval b s) s = credited := funext (creditedCast_eq _ s)
    have leaves : ∀ f, OnlyEntries (withAligner b f (begin s)) (lateExpires b (begin s)) →
        OnlyEntries (withAligner b f s) (settle (lateExpires b (begin s))) :=
      fun f h => onlyEntries_trans h (settle_onlyEntries _)
    have cut := fun hcut => leaves _ (lateExpires_cut hb (s := begin s) hdue hcut)
    have below := fun hbelow => leaves _ (lateExpires_below hb (s := begin s) hdue hstate hbelow)
    refine ⟨_, command_powered (lateExpires b) s hp, ?_⟩
    generalize settle (lateExpires b (begin s)) = t at casts cut below
    have aligner : ∀ {f}, OnlyEntries (withAligner b f s) t → t.aligner b = f (s.aligner b) := fun h =>
      (onlyEntries_aligner b h).trans (withAligner_aligner hb _ s)
    have hcast : ∀ p c, s.castAt p = some c → t.castAt p = some (if p ∈ bayPositions b then credited c else c) := by
      intro p c hc
      rw [casts p, hc, hcredited]
      split
      · rfl
      · rfl
    by_cases hcut : (s.settings b).cutLimit ≤ run
    · have h := cut hcut
      have ha := aligner h
      exact ⟨by rw [ha]; rfl, by rw [ha]; rfl, by rw [ha]; rfl, fun _ => by rw [ha]; exact ⟨rfl, rfl, rfl, rfl⟩,
        fun hlt => absurd hcut (Nat.not_le.2 hlt), hcast, aligner_update_frame h⟩
    · have h := below (Nat.not_le.1 hcut)
      have ha := aligner h
      exact ⟨by rw [ha]; rfl, by rw [ha]; rfl, by rw [ha]; rfl, fun hle => absurd hle hcut,
        fun _ => by rw [ha]; exact ⟨rfl, rfl, rfl⟩, hcast, aligner_update_frame h⟩

end Sys2Proof.Proofs
end

section
/-! PROOF. The figures of a cast part: the credit of a condition interval (R150 to R153) and the evaluation (R156 to R158). -/

namespace Sys2Proof.Proofs

open Sys2Proof.Machine

/-! ### The credit (R150 to R153) -/

theorem countSubstitute_eq (kind : IntervalKind) (n : Nat) :
    countSubstitute kind n = if kind = .reported then n else min 65535 (n + 1) := by
  cases kind with
  | reported => rfl
  | holdLast => rfl
  | datum => rfl

/-- R151 (1) to (3): a temperature below the datum credits nothing, one above Tcap no more than Tcap. -/
theorem creditOf_eq (datum cap t : Int) (n : Nat) :
    creditOf datum cap t n = (max 0 ((if t > cap then cap else t) - datum)).toNat * n / 360 := by
  have hcapped : min t cap = if t > cap then cap else t := by
    split
    · omega
    · omega
  have hpositive : ∀ x : Int, x.toNat = (max 0 x).toNat := by omega
  rw [creditOf, hcapped, hpositive]

/-- R151: an interval with readings, for a DEFINED class. -/
theorem creditCast_readings {i : Interval} {t : Int} {h : Nat} (k : ClassRecord) (c : CastPart)
    (hr : i.readings = some (t, h)) :
    creditCast (some k) i c =
      { c with
        substituted := countSubstitute i.kind c.substituted
        maturity := min 4000000 (c.maturity + creditOf k.datum k.cap t i.length)
        dry := if h < 10 * k.minHumidity then min 4294967295 (c.dry + i.length) else c.dry
        flags := { c.flags with overheat := c.flags.overheat || decide (t > k.cap) } } := by
  unfold creditCast
  rw [hr]
  rfl

/-- R152: an interval with no readings, or of a class UNDEFINED, is time unmeasured. -/
theorem creditCast_unmeasured {cls : Option ClassRecord} {i : Interval} (c : CastPart)
    (h : cls = none ∨ i.readings = none) :
    creditCast cls i c =
      { c with
        substituted := countSubstitute i.kind c.substituted
        gap := min 4294967295 (c.gap + i.length) } := by
  unfold creditCast
  cases cls with
  | none => rfl
  | some k =>
    rw [h.resolve_left (Option.some_ne_none k)]
    rfl

/-- Settles O55: `creditCast_readings` and `creditCast_unmeasured`, with the count and the credit in the statement's terms. -/
theorem creditOfAnInterval : Obligations.CreditOfAnInterval := by
  intro k i c t h counted unmeasured
  have hcount : countSubstitute i.kind c.substituted = counted := countSubstitute_eq _ _
  refine ⟨fun hr => ?readings, fun hr => ?datum, ?undefined⟩
  case readings => rw [creditCast_readings k c hr, hcount, creditOf_eq]
  case datum => rw [creditCast_unmeasured c (.inr hr), hcount]
  case undefined => rw [creditCast_unmeasured c (.inl rfl), hcount]

/-! ### The evaluation (R156 to R158) -/

theorem evaluateCast_tested {c : CastPart} (cls : Option ClassRecord) (clock : Nat)
    (h : c.state = .curing ∨ c.state = .overdue ∨ c.state = .held) :
    evaluateCast cls clock c = evaluatePlaced cls clock c := by
  unfold evaluateCast
  obtain h | h | h := h
  · rw [h]
  · rw [h]
  · rw [h]

theorem evaluateCast_releasable {c : CastPart} (cls : Option ClassRecord) (clock : Nat) (h : c.state = .releasable) :
    evaluateCast cls clock c = evaluateReleasable cls c := by
  unfold evaluateCast
  rw [h]

theorem evaluateCast_unplaced {c : CastPart} (cls : Option ClassRecord) (clock : Nat)
    (h : c.state = .transit ∨ c.state = .strayed) : evaluateCast cls clock c = c := by
  unfold evaluateCast
  obtain h | h := h
  · rw [h]
  · rw [h]

/-- R157 (1): a cast has a cause after the tests when it had one or an allowance is exceeded. -/
theorem addCauses_any (k : ClassRecord) (c : CastPart) :
    (addCauses (some k) c).any =
      (c.causes.any || (decide (k.gapAllow * 60 < c.gap) && !c.flags.assessed) ||
        (decide (k.dryAllow * 60 < c.dry) && !c.flags.assessed)) := by
  simp only [addCauses, CastCauses.any, Bool.and_comm (!c.flags.assessed)]
  ac_rfl

section placed

variable {k : ClassRecord} {clock : Nat} {c : CastPart}

/-- R157 (2): any cause holds the cast. -/
theorem evaluatePlaced_held (h : (addCauses (some k) c).any = true) :
    evaluatePlaced (some k) clock c = { c with causes := addCauses (some k) c, state := .held } := if_pos h

variable (hclean : (addCauses (some k) c).any = false)

include hclean

/-- R157: with no cause the cast's maturity and age decide. -/
theorem evaluatePlaced_clean :
    evaluatePlaced (some k) clock c =
      if k.target ≤ c.maturity ∧ k.minAge * 3600 ≤ clock - c.pourTime then
        { c with causes := addCauses (some k) c, state := .releasable }
      else if k.maxAge * 3600 < clock - c.pourTime then
        { c with causes := addCauses (some k) c, state := .overdue, flags := { c.flags with overdue := true } }
      else { c with causes := addCauses (some k) c, state := .curing } := if_neg (Bool.eq_false_iff.1 hclean)

/-- R157 (3). -/
theorem evaluatePlaced_ripe (hm : k.target ≤ c.maturity) (ha : k.minAge * 3600 ≤ clock - c.pourTime) :
    evaluatePlaced (some k) clock c = { c with causes := addCauses (some k) c, state := .releasable } := by
  rw [evaluatePlaced_clean hclean, if_pos ⟨hm, ha⟩]

variable (hshort : c.maturity < k.target ∨ clock - c.pourTime < k.minAge * 3600)

include hshort

/-- R157 (4). -/
theorem evaluatePlaced_overdue (h : k.maxAge * 3600 < clock - c.pourTime) :
    evaluatePlaced (some k) clock c =
      { c with causes := addCauses (some k) c, state := .overdue, flags := { c.flags with overdue := true } } := by
  rw [evaluatePlaced_clean hclean, if_neg (by omega), if_pos h]

/-- R157 (5). -/
theorem evaluatePlaced_curing (h : clock - c.pourTime ≤ k.maxAge * 3600) :
    evaluatePlaced (some k) clock c = { c with causes := addCauses (some k) c, state := .curing } := by
  rw [evaluatePlaced_clean hclean, if_neg (by omega), if_neg (Nat.not_lt.2 h)]

end placed

/-- R158: only a cause that it has already moves a RELEASABLE cast. -/
theorem evaluateReleasable_defined (k : ClassRecord) (c : CastPart) :
    evaluateReleasable (some k) c = if c.causes.any then { c with state := .held } else c := rfl

/-- Settles O56, by the outcomes of `evaluatePlaced` and `evaluateReleasable`. -/
theorem evaluationGivesTheState : Obligations.EvaluationGivesTheState := by
  intro k cls clock c e gapOver dryOver clean short tested takes
  have hcauses : addCauses (some k) c = takes.causes := by
    simp only [addCauses, takes, gapOver, dryOver, Bool.and_comm]
  have hany : (addCauses (some k) c).any = (c.causes.any || gapOver || dryOver) := addCauses_any k c
  have released : c.state = .releasable → e = evaluateReleasable (some k) c := evaluateCast_releasable (some k) clock
  have placed : tested → e = evaluatePlaced (some k) clock c := evaluateCast_tested (some k) clock
  refine ⟨?held, ?ripe, ?overdue, ?curing, ?doubted, ?kept, ?undefined, evaluateCast_unplaced cls clock⟩
  case held =>
    intro ht hc
    rw [placed ht, evaluatePlaced_held (hany.trans (eq_true_of_ne_false hc)), hcauses]
  case ripe =>
    intro ht hc hm ha
    rw [placed ht, evaluatePlaced_ripe (hany.trans hc) hm ha, hcauses]
  case overdue =>
    intro ht hc hs ha
    rw [placed ht, evaluatePlaced_overdue (hany.trans hc) hs ha, hcauses]
  case curing =>
    intro ht hc hs ha
    rw [placed ht, evaluatePlaced_curing (hany.trans hc) hs ha, hcauses]
  case doubted =>
    intro hr hc
    rw [released hr, evaluateReleasable_defined, if_pos hc]
  case kept =>
    intro hr hc
    rw [released hr, evaluateReleasable_defined, if_neg (Bool.eq_false_iff.1 hc)]
  case undefined =>
    rintro (ht | hr)
    · exact evaluateCast_tested none clock ht
    · exact evaluateCast_releasable none clock hr

end Sys2Proof.Proofs
end

section
/-! PROOF. The Cure Table under a change of one position, and a minute timer expiry (R154, R155), which CLOCK SET may reach (R189). -/

namespace Sys2Proof.Proofs

open Sys2Proof.Machine

/-! ### A change of one position -/

/-- Every update that a change of the cast at a position makes, its evaluation included, keeps the property. -/
structure CastStable (p : Nat) (P : State → Prop) : Prop where
  entry : ∀ (e : Entry) {t : State}, P t → P (writeEntry p e t)
  raise : ∀ (n : Notice) {t : State}, P t → P (Machine.raise n t)

namespace CastStable

variable {p : Nat} {P : State → Prop} {t : State} (hP : CastStable p P)

include hP

theorem putCast (c : CastPart) (h : P t) : P (Machine.putCast p c t) := by
  unfold Machine.putCast
  split
  · split
    · exact h
    · exact hP.entry _ h
  · exact h

theorem updateCast (f : CastPart → CastPart) (h : P t) : P (Machine.updateCast p f t) := by
  unfold Machine.updateCast
  split
  · exact hP.putCast _ h
  · exact h

theorem evaluateAt (h : P t) : P (Machine.evaluateAt p t) := by
  unfold Machine.evaluateAt
  split
  · exact h
  · dsimp only
    split
    · exact hP.putCast _ h
    · exact hP.raise _ (hP.putCast _ h)

end CastStable

theorem entry_castStable {p q : Nat} (h : q ≠ p) (e : Entry) : CastStable p (fun t => t.entry q = e) where
  entry x _ ht := (at1_put1_other _ p q x _ h).trans ht
  raise n t ht := by
    rw [State.entry, raise_store]
    exact ht

/-- While a reply is not formed, nothing is sent (R179, R181). -/
theorem silent_castStable (q : Received) (p : Nat) : CastStable p (fun t => AwaitsReply q t ∧ t.outputs = []) where
  entry _ _ h := h
  raise n t h := by
    obtain ⟨hw, ho⟩ := h
    refine ⟨(awaitsReply_stable q).raise n hw, ?_⟩
    obtain ⟨hhand, hreply, hsending, hheld⟩ := hw
    rw [raise_waits n t hheld hsending hreply (by rw [hhand]; rfl), queueNotice_eq]
    exact ho

/-- An update makes of the cast at its position what its function says. -/
theorem updateCast_castAt (p : Nat) (f : CastPart → CastPart) (s : State) :
    (updateCast p f s).castAt p = (s.castAt p).map f := by
  cases hc : s.castAt p with
  | none =>
    unfold updateCast
    rw [hc]
    exact hc
  | some c =>
    rw [updateCast_some f hc]
    exact putCast_castAt _ hc

/-- A change of a cast that keeps its class, and the evaluation that follows it. -/
theorem evaluateAt_updateCast_castAt (p : Nat) {f : CastPart → CastPart} (hf : ∀ c, (f c).cls = c.cls) (s : State) :
    (evaluateAt p (updateCast p f s)).castAt p =
      (s.castAt p).map fun c => evaluateCast (s.cls c.cls) s.clock (f c) := by
  have hu := updateCast_castAt p f s
  cases hc : s.castAt p with
  | none =>
    rw [hc] at hu
    unfold evaluateAt
    rw [hu]
    exact hu
  | some c =>
    rw [hc] at hu
    rw [evaluateAt_castAt hu, hf, updateCast_onlyEntries p f s]
    rfl

/-- `foldl_castAt` at one position, for an operation whose effect is not the same at every position. -/
theorem foldl_castAt_at {f : Nat → State → State} {g : State → CastPart → CastPart} {q : Nat}
    (hframe : ∀ p s, OnlyEntries s (f p s)) (hsame : ∀ s, (f q s).castAt q = (s.castAt q).map (g s))
    (hother : ∀ p s, q ≠ p → (f p s).castAt q = s.castAt q) (hg : ∀ s t, OnlyEntries s t → g t = g s)
    {ps : List Nat} (hn : ps.Nodup) (s : State) :
    (ps.foldl (fun t p => f p t) s).castAt q = if q ∈ ps then (s.castAt q).map (g s) else s.castAt q := by
  induction ps generalizing s with
  | nil => rfl
  | cons p ps ih =>
    obtain ⟨hp, hn⟩ := List.nodup_cons.1 hn
    rw [List.foldl_cons, ih hn, hg _ _ (hframe p s)]
    by_cases hq : q = p
    · subst hq
      rw [if_neg hp, if_pos List.mem_cons_self, hsame]
    · simp only [List.mem_cons, hq, false_or, hother p s hq]

theorem mem_allPositions_of_castAt {s : State} {p : Nat} {c : CastPart} (h : s.castAt p = some c) : p ∈ allPositions := by
  obtain ⟨h1, h288⟩ := position_of_castAt h
  rw [allPositions, List.mem_range'_1]
  omega

theorem allPositions_nodup : allPositions.Nodup := List.nodup_range'

/-! ### The minute at one position (R154, R155) -/

theorem minuteCast_cls (a : AlignerState) (c : CastPart) : (minuteCast a c).cls = c.cls := by
  unfold minuteCast
  split
  · rfl
  · rfl
  · split
    · rfl
    · rfl

theorem minuteCast_transit {c : CastPart} (a : AlignerState) (h : c.state = .transit) : minuteCast a c = c := by
  unfold minuteCast
  rw [h]

theorem minuteCast_strayed {c : CastPart} (a : AlignerState) (h : c.state = .strayed) : minuteCast a c = c.addGap 60 := by
  unfold minuteCast
  rw [h]
  rfl

/-- R155: the minute of a placed cast counts where its bay is unheard. -/
theorem minuteCast_credited {c : CastPart} (a : AlignerState) (h : c.state.credited = true) :
    minuteCast a c =
      if unheard a then { c.addGap 60 with flags := { c.flags with blind := true } } else c := by
  unfold minuteCast
  split
  · next ht => rw [ht] at h; cases h
  · next hs => rw [hs] at h; cases h
  · rfl

/-- R154 (1): what a minute timer expiry makes of the cast at a position, with its evaluation. -/
def minutedCast (p : Nat) (s : State) (c : CastPart) : CastPart :=
  evaluateCast (s.cls c.cls) s.clock (minuteCast (s.aligner (bayOf p)).state c)

theorem minutedCast_congr (p : Nat) {s t : State} (h : OnlyEntries s t) : minutedCast p t = minutedCast p s := by
  funext c
  have hcls : t.cls c.cls = s.cls c.cls := by
    unfold State.cls
    rw [h]
  have hclock : t.clock = s.clock := by rw [h]
  unfold minutedCast
  rw [hcls, hclock, onlyEntries_aligner _ h]

theorem minutedCast_transit {p : Nat} {s : State} {c : CastPart} (h : c.state = .transit) : minutedCast p s c = c := by
  rw [minutedCast, minuteCast_transit _ h]
  exact evaluateCast_unplaced _ _ (.inl h)

theorem minutedCast_strayed {p : Nat} {s : State} {c : CastPart} (h : c.state = .strayed) :
    minutedCast p s c = c.addGap 60 := by
  rw [minutedCast, minuteCast_strayed _ h]
  exact evaluateCast_unplaced _ _ (.inr h)

theorem minuteAt_onlyEntries (p : Nat) (s : State) : OnlyEntries s (minuteAt p s) :=
  onlyEntries_trans (updateCast_onlyEntries p _ s) (evaluateAt_onlyEntries p _)

theorem minuteAt_keeps {p : Nat} {P : State → Prop} (hP : CastStable p P) {s : State} (h : P s) : P (minuteAt p s) :=
  hP.evaluateAt (hP.updateCast _ h)

theorem minuteAt_castAt (p : Nat) (s : State) : (minuteAt p s).castAt p = (s.castAt p).map (minutedCast p s) :=
  evaluateAt_updateCast_castAt p (minuteCast_cls _) s

theorem minuteAt_castAt_other {p q : Nat} (s : State) (h : q ≠ p) : (minuteAt p s).castAt q = s.castAt q :=
  congrArg Entry.cast? (minuteAt_keeps (entry_castStable h (s.entry q)) rfl)

/-! ### A minute timer expiry (R154) -/

/-- R154 (1): the timer is set anew and every position gone through. -/
def minutePassed (s : State) : State :=
  allPositions.foldl (fun t p => minuteAt p t) { s with minuteNext := s.clock + Config.minute }

theorem minuteExpiry_eq (s : State) : minuteExpiry s = write (.lastStamp (minutePassed s).clock) (minutePassed s) := rfl

theorem minutePassed_onlyEntries (s : State) :
    OnlyEntries { s with minuteNext := s.clock + 60 } (minutePassed s) := foldl_onlyEntries minuteAt_onlyEntries _ _

/-- R154 (1): the expiry reaches every cast part, once. -/
theorem minutePassed_castAt {p : Nat} {s : State} {c : CastPart} (h : s.castAt p = some c) :
    (minutePassed s).castAt p = some (minutedCast p s c) := by
  have hall := foldl_castAt_at (q := p) minuteAt_onlyEntries (minuteAt_castAt p) (fun q t => minuteAt_castAt_other t)
    (fun _ _ => minutedCast_congr p) allPositions_nodup { s with minuteNext := s.clock + 60 }
  rw [if_pos (mem_allPositions_of_castAt h)] at hall
  unfold minutePassed
  exact hall.trans (congrArg (Option.map (minutedCast p s)) h)

theorem minutePassed_silent {q : Received} {s : State} (h : AwaitsReply q s) (ho : s.outputs = []) :
    AwaitsReply q (minutePassed s) ∧ (minutePassed s).outputs = [] :=
  foldl_keeps (P := fun t => AwaitsReply q t ∧ t.outputs = []) allPositions (fun t p => minuteAt p t)
    (fun p _ hu => minuteAt_keeps (silent_castStable q p) hu) ⟨h, ho⟩

/-- R154 (2): the timer set anew and the last-stamp rewritten. -/
def minuteStamped (s : State) : State :=
  { s with minuteNext := s.clock + 60, store := { s.store with lastStamp := s.clock } }

theorem minuteStamped_frame {s t : State} (h : OnlyEntries (minuteStamped s) t) :
    t.store.lastStamp = s.clock ∧ t.minuteNext = s.clock + 60 ∧ t.clock = s.clock ∧ t.store.batches = s.store.batches ∧
    t.store.settings = s.store.settings ∧ t.mixers = s.mixers ∧ t.orders = s.orders := by
  rw [h]
  exact ⟨rfl, rfl, rfl, rfl, rfl, rfl, rfl⟩

section lastStamp

variable {s t : State} (n : Nat)

theorem write_lastStamp_castAt (p : Nat) : (write (.lastStamp n) t).castAt p = t.castAt p := rfl

theorem write_lastStamp_onlyEntries (h : OnlyEntries { s with minuteNext := s.clock + 60 } t) :
    OnlyEntries (minuteStamped s) (write (.lastStamp t.clock) t) := by
  unfold OnlyEntries at *
  rw [h]
  rfl

theorem write_lastStamp_silent {q : Received} (h : AwaitsReply q t ∧ t.outputs = []) :
    AwaitsReply q (write (.lastStamp n) t) ∧ (write (.lastStamp n) t).outputs = [] := h

end lastStamp

theorem minuteExpiry_onlyEntries (s : State) : OnlyEntries (minuteStamped s) (minuteExpiry s) := by
  rw [minuteExpiry_eq]
  exact write_lastStamp_onlyEntries (minutePassed_onlyEntries s)

theorem minuteExpiry_castAt {p : Nat} {s : State} {c : CastPart} (h : s.castAt p = some c) :
    (minuteExpiry s).castAt p = some (minutedCast p s c) := by
  rw [minuteExpiry_eq, write_lastStamp_castAt, minutePassed_castAt h]

theorem minuteExpiry_silent {q : Received} {s : State} (h : AwaitsReply q s) (ho : s.outputs = []) :
    AwaitsReply q (minuteExpiry s) ∧ (minuteExpiry s).outputs = [] := by
  rw [minuteExpiry_eq]
  exact write_lastStamp_silent _ (minutePassed_silent h ho)

/-- Settles O57: the casts by `minuteExpiry_castAt`, the rest of the state by `minuteExpiry_onlyEntries`. -/
theorem minuteExpiryCountsGap : Obligations.MinuteExpiryCountsGap := by
  intro s hp
  refine ⟨fun hearly => event_ignored (f := minuteDue) rfl hp (if_neg (Nat.not_le.2 hearly)), fun hdue => ?due⟩
  have hexec : exec .minuteTimerExpiry s = .next (settle (minuteExpiry (begin s))) :=
    (command_powered minuteDue s hp).trans (congrArg (fun t => Host.Outcome.next (settle t)) (if_pos hdue))
  have hframe : OnlyEntries (minuteStamped s) (settle (minuteExpiry (begin s))) :=
    onlyEntries_trans (minuteExpiry_onlyEntries (begin s)) (settle_onlyEntries _)
  have hcast : ∀ p c, s.castAt p = some c →
      (settle (minuteExpiry (begin s))).castAt p = some (minutedCast p s c) := by
    intro p c hc
    rw [State.castAt, State.entry, settle_store]
    exact minuteExpiry_castAt (s := begin s) hc
  obtain ⟨hstamp, hnext, hclock, hbatches, hsettings, hmixers, horders⟩ := minuteStamped_frame hframe
  refine ⟨_, hexec, hstamp, hnext, hclock, hbatches, hsettings, hmixers, horders, fun p c hc => ?_⟩
  rw [hcast p c hc]
  refine ⟨fun ht => ?transit, fun hs => ?strayed, fun hk hu => ?unheard, fun hk hu => ?heard⟩
  case transit => rw [minutedCast_transit ht]
  case strayed =>
    rw [minutedCast_strayed hs]
    rfl
  case unheard =>
    rw [minutedCast, minuteCast_credited _ hk, if_pos hu]
    rfl
  case heard => rw [minutedCast, minuteCast_credited _ hk, if_neg (Bool.eq_false_iff.1 hu)]

/-! ### CLOCK SET (R189) -/

theorem clockSet_back {v : Nat} {s : State} (h : v < s.clock) : clockSet v s = (s, .refused .clockBack .empty) := if_pos h

section clockSet

variable {v : Nat} {s : State} (hle : s.clock ≤ v) (hmax : v ≤ 4294967295)

include hle hmax

theorem clockSet_forward : clockSet v s = (minuteDue { s with clock := v }, .done .empty) := by
  have hv : capped Config.clockMax v = v := Nat.min_eq_right hmax
  rw [clockSet, if_neg (Nat.not_lt.2 hle), hv]

theorem clockSet_short (h : v < s.minuteNext) : clockSet v s = ({ s with clock := v }, .done .empty) := by
  rw [clockSet_forward hle hmax, minuteDue, if_neg (Nat.not_le.2 h)]

theorem clockSet_expiry (h : s.minuteNext ≤ v) :
    clockSet v s = (minuteExpiry { s with clock := v }, .done .empty) := by
  rw [clockSet_forward hle hmax, minuteDue, if_pos h]

end clockSet

/-- `request_acts` for an action that sends nothing: the reply goes out first. -/
theorem request_acts_silently {c : Instr} {tag : Nat} {r : Request} {rep : Reply} {s x : State}
    (hc : c.request? = some (tag, r)) (h : linkFree s) (ha : act r (s.holding tag r) = (x, rep))
    (hb : x.batteryCleared = none) (hw : AwaitsReply (requested tag r) x) (ho : x.outputs = []) :
    Completes c s (x.answered tag r rep) [replyFrame tag r rep] := by
  obtain ⟨hhand, hreply, hsending, -⟩ := hw
  refine request_completes c tag r rep s x x _ hc h ha ?_ hsending hreply hb ?_
  · rw [← hhand]
  · rw [ho]
    exact List.prefix_rfl

/-- Settles O17, by the outcomes of `clockSet`; the expiry raises notices alone, which wait for the reply. -/
theorem clockSetMovesTheClock : Obligations.ClockSetMovesTheClock := by
  intro tag v s h
  refine ⟨fun hback => ?back, fun hle hmax hshort => ?short, fun hle hmax hdue => ?expiry⟩
  case back =>
    exact request_refused _ tag (.clockSet v) _ s _ rfl h (clockSet_back (s := taken _ s) hback) List.prefix_rfl
  case short =>
    obtain ⟨-, -, -, -, hreply, hsending, -⟩ := id h
    exact request_completes _ tag (.clockSet v) _ s _ { s with clock := v } _ rfl h
      (clockSet_short (s := taken _ s) hle hmax hshort) rfl hsending hreply rfl List.prefix_rfl
  case expiry =>
    have hact := clockSet_expiry (s := s.holding tag (.clockSet v)) hle hmax hdue
    obtain ⟨hstamp, hnext, hclock, -⟩ :=
      minuteStamped_frame (minuteExpiry_onlyEntries { s.holding tag (.clockSet v) with clock := v })
    obtain ⟨hwaits, hsilent⟩ := minuteExpiry_silent (q := requested tag (.clockSet v))
      (s := { s.holding tag (.clockSet v) with clock := v }) (holding_awaits tag (.clockSet v) h) rfl
    have hcleared := (minuteExpiry_kept (.refl { s.holding tag (.clockSet v) with clock := v })).batteryCleared
    exact ⟨request_acts_silently rfl h hact hcleared hwaits hsilent, hclock, hnext, hstamp⟩

end Sys2Proof.Proofs
end

section
/-! PROOF. CAST ASSESS (R160): the cast with its causes removed and evaluated, and the refusals. -/

namespace Sys2Proof.Proofs

open Sys2Proof.Machine

/-- `findCast` finds nothing where no entry holds a cast of that ID. -/
theorem findCast_none_of {id : Nat} {s : State} (h : ∀ p c, s.castAt p = some c → c.id ≠ id) : findCast id s = none := by
  refine List.find?_eq_none.2 fun p _ => ?_
  cases hc : s.castAt p with
  | none => exact Bool.false_ne_true
  | some c => exact fun hid => h p c hc (of_decide_eq_true hid)

/-! ### The assessment of a cast -/

/-- R160: the cast that CAST ASSESS evaluates. -/
def assessedCast (c : CastPart) : CastPart := { c with causes := .empty, flags := { c.flags with assessed := true } }

theorem assessedCast_cls (c : CastPart) : (assessedCast c).cls = c.cls := rfl

/-- R160: the cast at a position is assessed and evaluated. -/
def assessAt (p : Nat) (s : State) : State := evaluateAt p (updateCast p assessedCast s)

section assessAt

variable (p : Nat) (s : State)

theorem assessAt_onlyEntries : OnlyEntries s (assessAt p s) :=
  onlyEntries_trans (updateCast_onlyEntries p _ s) (evaluateAt_onlyEntries p _)

theorem assessAt_castAt :
    (assessAt p s).castAt p = (s.castAt p).map fun c => evaluateCast (s.cls c.cls) s.clock (assessedCast c) :=
  evaluateAt_updateCast_castAt p assessedCast_cls s

theorem assessAt_entry_other {q : Nat} (h : q ≠ p) : (assessAt p s).entry q = s.entry q :=
  have hP := entry_castStable h (s.entry q)
  hP.evaluateAt (hP.updateCast _ rfl)

theorem assessAt_kept : Kept s (assessAt p s) := evaluateAt_kept p (updateCast_kept p _ (.refl s) fun _ h => h)

theorem assessAt_awaits {q : Received} (h : AwaitsReply q s) : AwaitsReply q (assessAt p s) :=
  evaluateAt_stable (awaitsReply_stable q) p (updateCast_stable (awaitsReply_stable q) p _ h)

end assessAt

/-! ### The outcomes -/

section outcomes

variable {id p : Nat} {c : CastPart} {s : State}

theorem castAssess_noSuch (h : findCast id s = none) : castAssess id s = (s, .refused .noSuch .empty) := by
  rw [castAssess, h]

variable (hf : findCast id s = some p) (hc : s.castAt p = some c)

include hf hc

theorem castAssess_state (h : c.state ≠ .held) : castAssess id s = (s, .refused .state .empty) := by
  rw [castAssess, hf]
  dsimp only
  rw [hc]
  dsimp only
  split
  · next hheld => exact absurd hheld h
  · rfl

theorem castAssess_held (h : c.state = .held) :
    castAssess id s =
      (assessAt p s, .done (.assessed c.id c.causes (evaluateCast (s.cls c.cls) s.clock (assessedCast c)).state)) := by
  have hstate : stateAt p (assessAt p s) = (evaluateCast (s.cls c.cls) s.clock (assessedCast c)).state := by
    rw [stateAt, assessAt_castAt, hc]
    rfl
  rw [castAssess, hf, ← hstate]
  dsimp only
  rw [hc]
  dsimp only
  rw [h]
  rfl

end outcomes

/-! ### The request (R181) -/

section request

variable (tag : Nat) (q : Request) (s : State)

theorem holding_onlyEntries : OnlyEntries s (s.holding tag q) := rfl

theorem answered_onlyEntries (r : Reply) : OnlyEntries s (s.answered tag q r) := rfl

end request

theorem onlyEntries_of_settled {x t : State} (h : Settled x t) : OnlyEntries x t := by
  unfold OnlyEntries Settled at *
  rw [h]

/-- Settles O58, by the outcomes of `castAssess`; what an assessment leaves is `assessAt`. -/
theorem castAssessClearsTheCauses : Obligations.CastAssessClearsTheCauses := by
  intro tag id p c s h refused e
  refine ⟨fun hnone => ?noSuch, fun hf hc hs => ?state, fun hf hc hs => ?held⟩
  case noSuch =>
    exact request_unchanged rfl h (castAssess_noSuch (s := s.holding tag (.castAssess id)) (findCast_none_of hnone))
  case state =>
    exact request_unchanged rfl h (castAssess_state (s := s.holding tag (.castAssess id)) hf hc hs)
  case held =>
    have hact := castAssess_held (s := s.holding tag (.castAssess id)) hf hc hs
    obtain ⟨t, ht, hset, -⟩ := request_acts (c := .castAssess tag id) (r := .castAssess id) rfl h hact
      (assessAt_kept p _) (assessAt_awaits p _ (holding_awaits tag _ h))
    have hacted : OnlyEntries s (assessAt p (s.holding tag (.castAssess id))) :=
      onlyEntries_trans (holding_onlyEntries tag _ s) (assessAt_onlyEntries p _)
    have hentries : t.store.entries = (assessAt p (s.holding tag (.castAssess id))).store.entries := by
      rw [hset]
      rfl
    have hframe : OnlyEntries s t :=
      onlyEntries_trans (onlyEntries_trans hacted (answered_onlyEntries tag _ _ _)) (onlyEntries_of_settled hset)
    refine ⟨t, ht, hframe, ?_, fun q hq => ?_, ?_⟩
    · rw [State.castAt, State.entry, hentries]
      exact (assessAt_castAt p _).trans (congrArg (Option.map _) hc)
    · rw [State.entry, hentries]
      exact assessAt_entry_other p _ hq
    · rw [hset]
      rfl

end Sys2Proof.Proofs
end

section
/-! PROOF. Request bodies (R181, R187, Table 10.7, log 15): the number in a field is the number written to it, and each body is read back as its request. -/

namespace Sys2Proof.Proofs

open Sys2Proof.Machine

/-! ### Numbers in bytes (R187 (1), (2)) -/

@[simp] theorem be_length (n v : Nat) : (be n v).length = n := by
  induction n with
  | zero => rfl
  | succ n ih => rw [be, List.length_cons, ih]

theorem foldl_be (n v acc : Nat) :
    (be n v).foldl (fun a x => a * 256 + x.toNat) acc = acc * 256 ^ n + v % 256 ^ n := by
  induction n generalizing acc with
  | zero => simp [be, Nat.mod_one]
  | succ n ih =>
    have hbyte : (BitVec.ofNat 8 (v / 256 ^ n)).toNat = v / 256 ^ n % 256 := BitVec.toNat_ofNat _ _
    rw [be, List.foldl_cons, ih, hbyte, Nat.pow_succ, Nat.mod_mul, Nat.add_mul, Nat.mul_assoc, Nat.mul_comm 256,
      Nat.mul_comm (v / 256 ^ n % 256), Nat.add_assoc, Nat.add_comm (v % 256 ^ n)]

@[simp] theorem beInt_length (n : Nat) (v : Int) : (beInt n v).length = n := be_length n _

@[simp] theorem boolByte_length (v : Bool) : (boolByte v).length = 1 := be_length 1 _

/-- A number that fits its bytes is the number they spell. -/
theorem num_be {n v : Nat} (h : fits n v = true) : num (be n v) = v := by
  rw [num, foldl_be, Nat.zero_mul, Nat.zero_add, Nat.mod_eq_of_lt (of_decide_eq_true h)]

/-- A number in two's complement that fits its bytes is the number they spell. -/
theorem int_beInt {n : Nat} {v : Int} (h : fitsInt n v = true) : int (beInt n v) = v := by
  obtain ⟨hlow, hhigh⟩ : -((256 ^ n / 2 : Nat) : Int) ≤ v ∧ v < ((256 ^ n / 2 : Nat) : Int) := by
    simpa [fitsInt] using h
  have hpos : 0 < 256 ^ n := Nat.pow_pos (by decide)
  rw [int, beInt, num, foldl_be, be_length, Nat.zero_mul, Nat.zero_add]
  generalize 256 ^ n = M at *
  have hmod : v % (M : Int) = if 0 ≤ v then v else v + M := by
    split
    · exact Int.emod_eq_of_lt (by omega) (by omega)
    · rw [← Int.add_emod_right]
      exact Int.emod_eq_of_lt (by omega) (by omega)
  rw [hmod, Nat.mod_eq_of_lt (by split <;> omega)]
  split <;> split <;> omega

@[simp] theorem itemBytes_length (n : Nat) (l : List Nat) : (itemBytes n l).length = n * l.length := by
  induction l with
  | nil => rfl
  | cons x l ih =>
    rw [itemBytes, List.flatMap_cons, List.length_append, be_length, ← itemBytes, ih, List.length_cons, Nat.mul_succ,
      Nat.add_comm]

/-! ### Fields of a body -/

section fields

variable {p l : List Byte} {k n : Nat}

/-- A field behind a part of the body is read from the rest. -/
@[simp] theorem field_behind (h : p.length ≤ k) : field (p ++ l) k n = field l (k - p.length) n := by
  rw [field, List.drop_append, List.drop_eq_nil_of_le h, List.nil_append, field]

@[simp] theorem fieldInt_behind (h : p.length ≤ k) : fieldInt (p ++ l) k n = fieldInt l (k - p.length) n := by
  rw [fieldInt, List.drop_append, List.drop_eq_nil_of_le h, List.nil_append, fieldInt]

@[simp] theorem yesNo_behind (h : p.length ≤ k) : yesNo (p ++ l) k = yesNo l (k - p.length) := by
  rw [yesNo, field_behind h, yesNo]

@[simp] theorem items_behind {count : Nat} (h : p.length ≤ k) :
    items (p ++ l) k n count = items l (k - p.length) n count := by
  induction count generalizing k with
  | zero => rfl
  | succ count ih =>
    rw [items, items, field_behind h, ih (by omega), Nat.sub_add_comm h]

/-- The field at the start of a body. -/
@[simp] theorem field_be {v : Nat} (h : fits n v = true) : field (be n v ++ l) 0 n = v := by
  rw [field, List.drop_zero, List.take_left' (be_length n v), num_be h]

@[simp] theorem fieldInt_beInt {v : Int} (h : fitsInt n v = true) : fieldInt (beInt n v ++ l) 0 n = v := by
  rw [fieldInt, List.drop_zero, List.take_left' (beInt_length n v), int_beInt h]

@[simp] theorem field_boolByte (v : Bool) : field (boolByte v ++ l) 0 1 = v.toNat := by
  cases v
  · exact field_be rfl
  · exact field_be rfl

@[simp] theorem yesNo_boolByte (v : Bool) : yesNo (boolByte v ++ l) 0 = some v := by
  rw [yesNo, field_boolByte]
  cases v <;> rfl

@[simp] theorem items_itemBytes {xs : List Nat} (h : xs.all (fits n) = true) :
    items (itemBytes n xs ++ l) 0 n xs.length = xs := by
  induction xs with
  | nil => rfl
  | cons x xs ih =>
    rw [List.all_cons, Bool.and_eq_true] at h
    obtain ⟨hx, hxs⟩ := h
    have hbehind : (be n x).length ≤ n := Nat.le_of_eq (be_length n x)
    rw [itemBytes, List.flatMap_cons, ← itemBytes, List.append_assoc, List.length_cons, items, field_be hx, Nat.zero_add,
      items_behind hbehind, be_length, Nat.sub_self, ih hxs]

/-- `field_be` for the last field of a body. -/
@[simp] theorem field_be_last {v : Nat} (h : fits n v = true) : field (be n v) 0 n = v := by
  rw [← List.append_nil (be n v), field_be h]

@[simp] theorem yesNo_boolByte_last (v : Bool) : yesNo (boolByte v) 0 = some v := by
  rw [← List.append_nil (boolByte v), yesNo_boolByte]

@[simp] theorem items_itemBytes_last {xs : List Nat} (h : xs.all (fits n) = true) :
    items (itemBytes n xs) 0 n xs.length = xs := by
  rw [← List.append_nil (itemBytes n xs), items_itemBytes h]

end fields

/-! ### The bodies of the request kinds -/

theorem sized_of_length {n : Nat} {body : List Byte} (c : Content) (h : body.length = n) : sized n body c = c := if_pos h

theorem parseRequest_classSet (body : List Byte) : parseRequest 5 body = parseClass body := rfl

theorem parseRequest_baySet (body : List Byte) : parseRequest 6 body = parseBay body := rfl

/-! ORDER POST (Table 10.7). -/

theorem orderBytes_length {r : OrderRequest} (h : r.wf = true) : (requestBytes (.orderPost r)).length = 13 := by
  simp only [OrderRequest.wf, Bool.and_eq_true, decide_eq_true_eq] at h
  simp [requestBytes, h]

theorem parseOrder_body {r : OrderRequest} (h : r.wf = true) :
    parseOrder (requestBytes (.orderPost r)) = .request (.orderPost r) := by
  simp only [OrderRequest.wf, Bool.and_eq_true, decide_eq_true_eq] at h
  obtain ⟨⟨hfields, hlength⟩, hbytes⟩ := h
  have hitems : items (itemBytes 1 r.bayBytes) 0 1 4 = r.bayBytes := by rw [← hlength, items_itemBytes_last hbytes]
  simp [parseOrder, requestBytes, hitems, hfields]

/-! CLASS SET (Table 1.1). -/

theorem classBytes_length (r : ClassRecord) : (classBytes r).length = 32 + r.placement.length := by
  unfold classBytes
  simp only [List.length_append, be_length, beInt_length, itemBytes_length]
  omega

theorem parseClass_body {n : Nat} {r : ClassRecord} (hn : fits 1 n = true) (h : r.wf = true) :
    parseClass (requestBytes (.classSet n r)) = .request (.classSet n r) := by
  simp only [ClassRecord.wf, fitsList, Bool.and_eq_true] at h
  have hcount : field (be 1 n ++ classBytes r) 32 1 = r.placement.length := by
    unfold classBytes
    simp [h]
  have hlength : (be 1 n ++ classBytes r).length = 33 + field (be 1 n ++ classBytes r) 32 1 := by
    rw [hcount, List.length_append, be_length, classBytes_length]
    omega
  rw [requestBytes, parseClass, if_pos hlength, hcount]
  unfold classBytes
  simp [hn, h]

/-! BAY SET (Table 6.2): the body is read in two parts, up to the end of the fill order and behind it. -/

/-- The body up to the end of the fill order. -/
def bayFront (r : BayRequest) : List Byte :=
  boolByte r.fillOrder.isSome ++ be 1 r.bay ++ be 1 r.levels ++ be 1 r.slots ++ be 1 (r.fillOrder.getD []).length ++
  itemBytes 2 (r.fillOrder.getD [])

/-- The body behind the fill order. -/
def bayBack (r : BayRequest) : List Byte :=
  be 2 r.period ++ be 1 r.cutLimit ++ boolByte r.autoSeal ++ be 2 r.settle ++ be 2 r.coolDown

theorem requestBytes_baySet (r : BayRequest) : requestBytes (.baySet r) = bayFront r ++ bayBack r := by
  simp only [requestBytes, bayFront, bayBack, List.append_assoc]

theorem bayFront_length (r : BayRequest) : (bayFront r).length = 5 + 2 * (r.fillOrder.getD []).length := by
  simp only [bayFront, List.length_append, be_length, boolByte_length, itemBytes_length]

theorem bayBack_length (r : BayRequest) : (bayBack r).length = 8 := by simp [bayBack]

/-- The items of a fill order fit their bytes; an absent one has none. -/
theorem fillOrder_fits {o : Option (List Nat)} (h : o.all (fitsList 2) = true) :
    fits 1 (o.getD []).length = true ∧ (o.getD []).all (fits 2) = true := by
  cases o with
  | none => exact ⟨rfl, rfl⟩
  | some xs => exact (Bool.and_eq_true _ _).mp h

section bay

variable {r : BayRequest} (h : r.wf = true)

include h

theorem bayFront_fields (l : List Byte) :
    field (bayFront r ++ l) 0 1 = r.fillOrder.isSome.toNat ∧ field (bayFront r ++ l) 1 1 = r.bay ∧
    field (bayFront r ++ l) 2 1 = r.levels ∧ field (bayFront r ++ l) 3 1 = r.slots ∧
    field (bayFront r ++ l) 4 1 = (r.fillOrder.getD []).length ∧
    items (bayFront r ++ l) 5 2 (r.fillOrder.getD []).length = r.fillOrder.getD [] := by
  simp only [BayRequest.wf, Bool.and_eq_true] at h
  obtain ⟨⟨⟨⟨⟨⟨⟨hbay, hlevels⟩, hslots⟩, hfill⟩, -⟩, -⟩, -⟩, -⟩ := h
  obtain ⟨hcount, hitems⟩ := fillOrder_fits hfill
  simp [bayFront, hbay, hlevels, hslots, hcount, hitems]

theorem bayBack_fields :
    field (bayBack r) 0 2 = r.period ∧ field (bayBack r) 2 1 = r.cutLimit ∧ yesNo (bayBack r) 3 = some r.autoSeal ∧
    field (bayBack r) 4 2 = r.settle ∧ field (bayBack r) 6 2 = r.coolDown := by
  simp only [BayRequest.wf, Bool.and_eq_true] at h
  obtain ⟨⟨⟨⟨-, hperiod⟩, hcut⟩, hsettle⟩, hcool⟩ := h
  simp [bayBack, hperiod, hcut, hsettle, hcool]

theorem parseBay_body : parseBay (requestBytes (.baySet r)) = .request (.baySet r) := by
  obtain ⟨hgiven, hbay, hlevels, hslots, hcount, hitems⟩ := bayFront_fields h (bayBack r)
  obtain ⟨hperiod, hcut, hauto, hsettle, hcool⟩ := bayBack_fields h
  have hlength : (bayFront r ++ bayBack r).length = 13 + 2 * (r.fillOrder.getD []).length := by
    rw [List.length_append, bayFront_length, bayBack_length]
    omega
  have hmark : r.fillOrder.isSome.toNat % 2 = 1 ∨ (r.fillOrder.getD []).length = 0 := by
    cases r.fillOrder with
    | none => exact .inr rfl
    | some xs => exact .inl rfl
  have hfill : (if r.fillOrder.isSome.toNat % 2 = 1 then some (r.fillOrder.getD []) else none) = r.fillOrder := by
    cases r.fillOrder with
    | none => rfl
    | some xs => rfl
  rw [requestBytes_baySet]
  unfold parseBay
  dsimp only
  rw [hcount, hgiven, if_pos ⟨hlength, hmark⟩, hitems, hfill, hbay, hlevels, hslots]
  simp [bayFront_length, hperiod, hcut, hauto, hsettle, hcool]

end bay

/-! Cast references (10.6.4, 10.6.5) and QUERY BAY (R140). -/

@[simp] theorem refBytes_length (c : CastRef) : (refBytes c).length = 4 := by cases c <;> rfl

theorem refOf_body {c : CastRef} (h : c.wf = true) (l : List Byte) : refOf (refBytes c ++ l) = some c := by
  cases c with
  | byId i =>
    have hi : fits 3 i = true := h
    simp [refOf, refBytes, hi, show fits 1 1 = true from rfl]
  | byPosition p =>
    have hp : fits 3 p = true := h
    simp [refOf, refBytes, hp, show fits 1 2 = true from rfl]

theorem parseRef_body {c : CastRef} (f : CastRef → Request) (h : c.wf = true) :
    parseRef (refBytes c) f = .request (f c) := by
  rw [parseRef, ← List.append_nil (refBytes c), refOf_body h]

theorem parseTake_body {c : CastRef} (force : Bool) (h : c.wf = true) :
    parseTake (refBytes c ++ boolByte force) = .request (.castTake c force) := by
  have hforce : yesNo (refBytes c ++ boolByte force) 4 = some force := by simp
  rw [parseTake, refOf_body h, hforce]

theorem parseQueryBay_body {b : Nat} (clear : Bool) (h : fits 1 b = true) :
    parseQueryBay (be 1 b ++ boolByte clear) = .request (.queryBay b clear) := by
  have hclear : yesNo (be 1 b ++ boolByte clear) 1 = some clear := by simp
  rw [parseQueryBay, hclear, field_be h]

/-- Settles O10: the bodies of more than plain numbers by their own lemmas; a body of plain numbers has its length, and each
number is read from its bytes. -/
theorem requestBodiesReadBack : Obligations.RequestBodiesReadBack := by
  intro r h
  cases r with
  | orderPost r => exact (sized_of_length _ (orderBytes_length h)).trans (parseOrder_body h)
  | classSet n r =>
    obtain ⟨hn, hr⟩ := (Bool.and_eq_true _ _).mp h
    exact (parseRequest_classSet _).trans (parseClass_body hn hr)
  | baySet r => exact (parseRequest_baySet _).trans (parseBay_body h)
  | castDiscard c | queryCast c => exact (sized_of_length _ (refBytes_length c)).trans (parseRef_body _ h)
  | castTake c force => exact (sized_of_length _ (by simp [requestBytes])).trans (parseTake_body force h)
  | queryBay b clear => exact (sized_of_length _ (by simp [requestBytes])).trans (parseQueryBay_body clear h)
  | hunt | shuttleRetry | queryQueue | restart => rfl
  | lotDefine _ _ _ | bayMark _ _ | castPlace _ _ =>
    simp only [Request.wf, Bool.and_eq_true] at h
    refine (sized_of_length _ (by simp [requestBytes])).trans ?_
    simp [requestBytes, h]
  | _ =>
    refine (sized_of_length _ (be_length _ _)).trans ?_
    rw [requestBytes, field_be_last h]

end Sys2Proof.Proofs
end

section
/-! PROOF. The Plant Link: the receiver (R178), the transmitter (R179), the input buffer and the request in hand (R180, R181) and the notice queue (R183). -/

namespace Sys2Proof.Proofs

open Sys2Proof.Machine

/-- A command whose operation leaves `x` but for what the command has sent and written, and sends `o`. -/
theorem command_leaves {c : Instr} {f : State → State} {s x : State} {o : List Output} (hc : exec c s = command f s)
    (hp : s.powered = true) (hf : f (begin s) = { begin x with outputs := o }) : Completes c s x o := by
  have houtputs : (f (begin s)).outputs = o := congrArg State.outputs hf
  refine settle_completes c s x (f (begin s)) o (hc.trans (command_powered f s hp)) (congrArg State.batteryCleared hf) ?_
    (houtputs ▸ List.prefix_rfl)
  rw [hf]
  rfl

/-! ### The notice queue (R183) -/

theorem queueNotice_room (n : Notice) {s : State} (h : s.plantLink.notices.length < 32) :
    queueNotice n s = { s with plantLink := { s.plantLink with notices := s.plantLink.notices ++ [n] } } := if_pos h

theorem queueNotice_full (n : Notice) {s : State} (h : 32 ≤ s.plantLink.notices.length) :
    queueNotice n s = { s with plantLink := { s.plantLink with overrun := true } } := if_neg (Nat.not_lt.2 h)

/-- Settles O9, by the two branches of `queueNotice`. -/
theorem noticeQueueHolds32 : Obligations.NoticeQueueHolds32 := fun n _ => ⟨queueNotice_room n, queueNotice_full n⟩

/-! ### The receiver (R178) -/

theorem setReceiver_setReceiver (r r' : Receiver) (s : State) : setReceiver r (setReceiver r' s) = setReceiver r s := rfl

theorem setReceiver_self {r : Receiver} {s : State} (h : s.plantLink.receiver = r) : setReceiver r s = s := by
  subst h
  rfl

/-- R178 (1): the bytes of a frame after its start byte that do not yet end it. -/
def Incomplete (l : List Byte) : Prop := l.length < 2 ∨ (field l 0 2 ≤ 250 ∧ l.length ≠ 6 + field l 0 2)

section receiver

variable {x : Byte} {l : List Byte} {s : State}

theorem byteArrives_start (h : s.plantLink.receiver = .hunting) :
    byteArrives 0x7E#8 s = setReceiver (.receiving []) s := by
  unfold byteArrives
  rw [h]
  exact if_pos rfl

theorem byteArrives_dropped (h : s.plantLink.receiver = .hunting) (hx : x ≠ 0x7E#8) : byteArrives x s = s := by
  unfold byteArrives
  rw [h]
  exact if_neg hx

/-- R178 (2): a gap ends the frame. -/
theorem gapPasses_receiving (h : s.plantLink.receiver = .receiving l) : gapPasses s = setReceiver .hunting s := by
  unfold gapPasses
  rw [h]

theorem frameComplete_agrees (h : crcBytes (l.take (l.length - 2)) = l.drop (l.length - 2)) :
    frameComplete l s =
      offer
        { kind := field (l.take (l.length - 2)) 2 1, tag := field (l.take (l.length - 2)) 3 1
          content := parseRequest (field (l.take (l.length - 2)) 2 1) ((l.take (l.length - 2)).drop 4) }
        (setReceiver .hunting s) := if_pos h

/-- Bytes with their check word behind them. -/
theorem frameComplete_checked (l : List Byte) (s : State) :
    frameComplete (l ++ crcBytes l) s =
      offer { kind := field l 2 1, tag := field l 3 1, content := parseRequest (field l 2 1) (l.drop 4) }
        (setReceiver .hunting s) := by
  have hlength : (l ++ crcBytes l).length - 2 = l.length := by
    rw [List.length_append, crcBytes, be_length, Nat.add_sub_cancel]
  have htake : (l ++ crcBytes l).take ((l ++ crcBytes l).length - 2) = l := by rw [hlength, List.take_left]
  have hdrop : (l ++ crcBytes l).drop ((l ++ crcBytes l).length - 2) = crcBytes l := by rw [hlength, List.drop_left]
  rw [frameComplete_agrees (by rw [htake, hdrop]), htake]

theorem frameComplete_disagrees (h : crcBytes (l.take (l.length - 2)) ≠ l.drop (l.length - 2)) :
    frameComplete l s = setReceiver .hunting s := if_neg h

variable (h : s.plantLink.receiver = .receiving l)

include h

theorem byteArrives_receiving :
    byteArrives x s =
      if 2 ≤ (l ++ [x]).length then
        if 250 < field (l ++ [x]) 0 2 then setReceiver .hunting s
        else if (l ++ [x]).length = 6 + field (l ++ [x]) 0 2 then frameComplete (l ++ [x]) s
        else setReceiver (.receiving (l ++ [x])) s
      else setReceiver (.receiving (l ++ [x])) s := by
  unfold byteArrives
  rw [h]
  rfl

theorem byteArrives_incomplete (hi : Incomplete (l ++ [x])) : byteArrives x s = setReceiver (.receiving (l ++ [x])) s := by
  rw [byteArrives_receiving h]
  rcases hi with hshort | ⟨hbody, hlength⟩
  · rw [if_neg (Nat.not_le.2 hshort)]
  · rw [if_neg (Nat.not_lt.2 hbody), if_neg hlength, ite_self]

variable (htwo : 2 ≤ (l ++ [x]).length)

include htwo

theorem byteArrives_tooLong (hbody : 250 < field (l ++ [x]) 0 2) : byteArrives x s = setReceiver .hunting s := by
  rw [byteArrives_receiving h, if_pos htwo, if_pos hbody]

theorem byteArrives_complete (hbody : field (l ++ [x]) 0 2 ≤ 250) (hlength : (l ++ [x]).length = 6 + field (l ++ [x]) 0 2) :
    byteArrives x s = frameComplete (l ++ [x]) s := by
  rw [byteArrives_receiving h, if_pos htwo, if_neg (Nat.not_lt.2 hbody), if_pos hlength]

end receiver

/-- Settles O12: each byte by its branch of the receiver, and the gap by `gapPasses_receiving`. -/
theorem receiverTakesBytes : Obligations.ReceiverTakesBytes := by
  intro x l s hp
  refine ⟨fun h hx => ?dropped, fun h => ?start, fun h hshort => ?first, fun h htwo hbody => ?tooLong,
    fun h _ hbody hlength => ?added, fun h htwo hbody hlength hcrc => ?wrong, fun h => ?gap⟩
  case dropped => exact event_ignored (f := byteArrives x) rfl hp (byteArrives_dropped (s := begin s) h hx)
  case start => exact command_leaves (f := byteArrives 0x7E#8) rfl hp (byteArrives_start (s := begin s) h)
  case first =>
    exact command_leaves (f := byteArrives x) rfl hp (byteArrives_incomplete (s := begin s) h (.inl hshort))
  case tooLong => exact command_leaves (f := byteArrives x) rfl hp (byteArrives_tooLong (s := begin s) h htwo hbody)
  case added =>
    exact command_leaves (f := byteArrives x) rfl hp (byteArrives_incomplete (s := begin s) h (.inr ⟨hbody, hlength⟩))
  case wrong =>
    exact command_leaves (f := byteArrives x) rfl hp
      ((byteArrives_complete (s := begin s) h htwo hbody hlength).trans (frameComplete_disagrees hcrc))
  case gap => exact command_leaves (f := gapPasses) rfl hp (gapPasses_receiving (s := begin s) h)

/-! ### A whole frame (R178) -/

/-- R178: the bytes of a frame that its check word covers. -/
def coveredBytes (kind tag : Nat) (body : List Byte) : List Byte := be 2 body.length ++ be 1 kind ++ be 1 tag ++ body

theorem frameBytes_eq (kind tag : Nat) (body : List Byte) :
    frameBytes kind tag body =
      0x7E#8 :: (coveredBytes kind tag body ++ crcBytes (coveredBytes kind tag body)) := rfl

theorem crcBytes_two (l : List Byte) : ∃ a b, crcBytes l = [a, b] := ⟨_, _, rfl⟩

/-- The start of a list of bytes decides the fields that lie in it. -/
theorem field_of_prefix {l m : List Byte} {n : Nat} (h : l <+: m) (hn : n ≤ l.length) : field l 0 n = field m 0 n := by
  obtain ⟨r, rfl⟩ := h
  rw [field, field, List.drop_zero, List.drop_zero, List.take_append_of_le_length hn]

section frame

variable (kind tag : Nat) {body : List Byte}

theorem coveredBytes_length : (coveredBytes kind tag body).length = 4 + body.length := by
  simp only [coveredBytes, List.length_append, be_length]

theorem coveredBytes_body : (coveredBytes kind tag body).drop 4 = body :=
  List.drop_left' (by simp only [List.length_append, be_length])

theorem coveredBytes_size (hbody : body.length ≤ 250) (r : List Byte) :
    field (coveredBytes kind tag body ++ r) 0 2 = body.length := by
  have hfits : fits 2 body.length = true := decide_eq_true (by omega)
  simp [coveredBytes, hfits]

variable {kind tag}

theorem coveredBytes_kind (hkind : kind < 256) : field (coveredBytes kind tag body) 2 1 = kind := by
  have hfits : fits 1 kind = true := decide_eq_true hkind
  simp [coveredBytes, hfits]

theorem coveredBytes_tag (htag : tag < 256) : field (coveredBytes kind tag body) 3 1 = tag := by
  have hfits : fits 1 tag = true := decide_eq_true htag
  simp [coveredBytes, hfits]

/-- A frame is not complete before its last byte. -/
theorem incomplete_of_prefix (hbody : body.length ≤ 250) {l : List Byte} {a : Byte}
    (h : l <+: coveredBytes kind tag body ++ [a]) : Incomplete l := by
  have hlength := h.length_le
  rw [List.length_append, coveredBytes_length, List.length_singleton] at hlength
  by_cases htwo : l.length < 2
  · exact .inl htwo
  · rw [Incomplete, field_of_prefix h (Nat.not_lt.1 htwo), coveredBytes_size kind tag hbody]
    exact .inr ⟨hbody, by omega⟩

/-- The last byte of the check word completes the frame. -/
theorem byteArrives_last (hbody : body.length ≤ 250) {a b : Byte} (hcrc : crcBytes (coveredBytes kind tag body) = [a, b])
    {s : State} (hs : s.plantLink.receiver = .receiving (coveredBytes kind tag body ++ [a])) :
    byteArrives b s = frameComplete (coveredBytes kind tag body ++ crcBytes (coveredBytes kind tag body)) s := by
  have hframe : coveredBytes kind tag body ++ [a] ++ [b] =
      coveredBytes kind tag body ++ crcBytes (coveredBytes kind tag body) := by rw [hcrc, ← List.append_cons]
  have hsize : field (coveredBytes kind tag body ++ [a] ++ [b]) 0 2 = body.length := by
    rw [hframe, coveredBytes_size kind tag hbody]
  have hlength : (coveredBytes kind tag body ++ [a] ++ [b]).length = 6 + body.length := by
    rw [hframe, List.length_append, crcBytes, be_length, coveredBytes_length, Nat.add_right_comm]
  rw [byteArrives_complete hs (by omega) (by omega) (by omega), hframe]

end frame

/-- Bytes that do not end the frame gather in the receiver, behind those that it holds. -/
theorem foldl_byteArrives {l held : List Byte} {s : State} (hs : s.plantLink.receiver = .receiving held)
    (h : ∀ p, p <+: held ++ l → Incomplete p) :
    l.foldl (fun t x => byteArrives x t) s = setReceiver (.receiving (held ++ l)) s := by
  induction l generalizing held s with
  | nil =>
    rw [List.append_nil]
    exact (setReceiver_self hs).symm
  | cons x l ih =>
    rw [List.append_cons] at h ⊢
    rw [List.foldl_cons, byteArrives_incomplete hs (h _ (List.prefix_append _ l)),
      ih (s := setReceiver (.receiving (held ++ [x])) s) rfl h, setReceiver_setReceiver]

/-- Settles O11: all bytes but the last gather, and the last completes a frame whose check word agrees. -/
theorem wholeFrameIsOffered : Obligations.WholeFrameIsOffered := by
  intro kind tag body s hkind htag hbody hs
  obtain ⟨a, b, hcrc⟩ := crcBytes_two (coveredBytes kind tag body)
  have hgather := foldl_byteArrives (l := coveredBytes kind tag body ++ [a]) (s := setReceiver (.receiving []) s) rfl
    fun _ hprefix => incomplete_of_prefix hbody hprefix
  calc (frameBytes kind tag body).foldl (fun t x => byteArrives x t) s
      = byteArrives b (setReceiver (.receiving (coveredBytes kind tag body ++ [a])) s) := by
        rw [frameBytes_eq, hcrc, List.foldl_cons, byteArrives_start hs, List.append_cons, List.foldl_append, hgather]
        rfl
    _ = offer { kind := kind, tag := tag, content := parseRequest kind body } (setReceiver .hunting s) := by
        rw [byteArrives_last hbody hcrc rfl, frameComplete_checked, coveredBytes_kind hkind, coveredBytes_tag htag,
          coveredBytes_body, setReceiver_setReceiver]
    _ = offer { kind := kind, tag := tag, content := parseRequest kind body } s := by rw [setReceiver_self hs]

/-! ### The input buffer and the request in hand (R180) -/

/-- With a request in hand, none is taken. -/
theorem takeNext_inHand {s : State} (h : s.plantLink.inHand.isSome = true) : takeNext s = s := by
  obtain ⟨q, hq⟩ := Option.isSome_iff_exists.mp h
  unfold takeNext
  rw [hq]

theorem takeNext_empty {s : State} (h : s.plantLink.buffer = []) : takeNext s = s := by
  unfold takeNext
  rw [h]
  cases s.plantLink.inHand <;> rfl

/-- With no request in hand, the head of the buffer is taken. -/
theorem takeNext_head {s : State} {q : Received} {qs : List Received} (h : s.plantLink.inHand = none)
    (hb : s.plantLink.buffer = q :: qs) :
    takeNext s =
      formReply q (answer q.content { s with plantLink := { s.plantLink with buffer := qs, inHand := some q } }) := by
  unfold takeNext
  rw [h, hb]

theorem offer_started (q : Received) {s : State} (h : s.plantLink.receiver ≠ .beforeStart) :
    offer q s =
      if s.plantLink.buffer.length < 4 then
        takeNext { s with plantLink := { s.plantLink with buffer := s.plantLink.buffer ++ [q] } }
      else s := by
  unfold offer
  split
  · next hr => exact absurd hr h
  · rfl

section offer

variable (q : Received) {s : State} (h : s.plantLink.receiver ≠ .beforeStart)

include h

/-- A record received with a request in hand waits at the tail of the buffer. -/
theorem offer_joins (hhand : s.plantLink.inHand.isSome = true) (hroom : s.plantLink.buffer.length < 4) :
    offer q s = { s with plantLink := { s.plantLink with buffer := s.plantLink.buffer ++ [q] } } := by
  rw [offer_started q h, if_pos hroom]
  exact takeNext_inHand hhand

theorem offer_discarded (hfull : ¬ s.plantLink.buffer.length < 4) : offer q s = s := by
  rw [offer_started q h, if_neg hfull]

end offer

/-- A record refused on a free link changes nothing but the Plant Link; `t` is the state in which it is offered. -/
theorem record_refused {c : Instr} {f : State → State} {s t : State} {q : Received} {rep : Reply}
    (hc : exec c s = command f s) (hp : s.powered = true) (h : linkFree t) (hf : f (begin s) = offer q (begin t))
    (ha : answer q.content (taken q t) = (taken q t, rep)) :
    Completes c s { t with plantLink := answering t.plantLink q rep } [.frame (.reply q.kind q.tag rep)] := by
  obtain ⟨-, -, -, -, hreply, hsending, -⟩ := id h
  refine command_leaves hc hp ?_
  rw [hf, offer_free q t h, ha, formReply_free q (taken q t) rep hsending hreply]
  rfl

theorem linkFree_hunting {s : State} (h : linkFree s) : linkFree (setReceiver .hunting s) := by
  obtain ⟨hp, -, hbuffer, hhand, hreply, hsending, hheld⟩ := h
  exact ⟨hp, Receiver.noConfusion, hbuffer, hhand, hreply, hsending, hheld⟩

/-- Settles O13: on a free link by `exec_request_replied`, with a request in hand by `offer_joins` or `offer_discarded`, and
the two refusals by `record_refused`. -/
theorem requestsOnThePlantLink : Obligations.RequestsOnThePlantLink := by
  intro c tag kind r x l s
  refine ⟨fun hc h => ?free, fun hc hp hstart hhand => ?inHand, fun h => ?unknownKind, fun h hr => ?malformed⟩
  case free => exact exec_request_replied hc h rfl
  case inHand =>
    have hexec : exec c s = command (offer (requested tag r)) s := exec_request c tag r s hc
    split
    · next hroom => exact command_leaves hexec hp (offer_joins (s := begin s) _ hstart hhand hroom)
    · next hfull => exact event_ignored hexec hp (offer_discarded (s := begin s) _ hstart hfull)
  case unknownKind =>
    obtain ⟨hp, -⟩ := id h
    exact record_refused (f := offer { kind := kind, tag := tag, content := .unknownKind }) rfl hp h rfl rfl
  case malformed =>
    intro f covered htwo hbody hlength hcrc hform
    obtain ⟨hp, -⟩ := id h
    refine record_refused (f := byteArrives x) (t := setReceiver .hunting s) rfl hp (linkFree_hunting h) ?_ rfl
    rw [byteArrives_complete (s := begin s) hr htwo hbody hlength, frameComplete_agrees hcrc, hform]
    rfl

/-! ### The transmitter (R179) -/

/-- The transmitter's choice leaves the input buffer and the request in hand alone. -/
theorem kick_waiting (s : State) :
    (kick s).plantLink.buffer = s.plantLink.buffer ∧ (kick s).plantLink.inHand = s.plantLink.inHand := by
  unfold kick
  split
  · exact ⟨rfl, rfl⟩
  · split
    · exact ⟨rfl, rfl⟩
    · split
      · exact ⟨rfl, rfl⟩
      · split <;> exact ⟨rfl, rfl⟩

section kick

variable {s : State} (hs : s.plantLink.sending = none)

include hs

theorem kick_reply {g : Frame} (h : s.plantLink.reply = some g) :
    kick s = beginFrame g { s with plantLink := { s.plantLink with reply := none } } := by
  unfold kick
  rw [hs, h]

variable (h : s.plantLink.reply = none)

include h

theorem kick_notice {n : Notice} {rest : List Notice} (hh : s.plantLink.inHand = none)
    (hn : s.plantLink.notices = n :: rest) :
    kick s = beginFrame (.notice n) { s with plantLink := { s.plantLink with notices := rest } } := by
  unfold kick
  rw [hs, h, hh, hn]

theorem kick_nothing (hn : s.plantLink.notices = []) : kick s = s := by
  unfold kick
  rw [hs, h, hn]
  cases s.plantLink.inHand <;> rfl

end kick

/-- R179: the frame being sent has ended. -/
def sendingEnded (s : State) : State := { s with plantLink := { s.plantLink with sending := none } }

/-- R180: the reply being sent has ended, and its request is no longer in hand. -/
def replyEnded (s : State) : State := { s with plantLink := { s.plantLink with sending := none, inHand := none } }

section frameEnds

variable {s : State} {f : Sending} (hs : s.plantLink.sending = some f)

include hs

theorem frameEnds_notice (h : ∃ n, f.frame = .notice n) : frameEnds s = kick (sendingEnded s) := by
  obtain ⟨n, hn⟩ := h
  unfold frameEnds
  rw [hs]
  dsimp only
  rw [hn]
  rfl

theorem frameEnds_reply {kind tag : Nat} {r : Reply} (h : f.frame = .reply kind tag r) :
    frameEnds s = takeNext (kick (replyEnded s)) := by
  unfold frameEnds
  rw [hs]
  dsimp only
  rw [h]
  rfl

end frameEnds

/-- Settles O14: the frame that ended by `frameEnds_notice` or `frameEnds_reply`, the choice by `kick`, the request taken by
`takeNext`. -/
theorem frameSentChoosesTheNextFrame : Obligations.FrameSentChoosesTheNextFrame := by
  intro s f n rest kind tag r g q qs hp hs sent next
  have hc := exec_frameSent s
  obtain ⟨hbuffer, hhand⟩ := kick_waiting (replyEnded (begin s))
  refine ⟨fun hf hr => ?reply, fun hf hr hh hn => ?notice, fun hf hr hn => ?idle, fun hf hr hb hn => ?replyNotice,
    fun hf hr hb hn => ?replyIdle, fun hf hr hb hn => ?taken, fun hf hr hb hn => ?takenBehind⟩
  case reply =>
    refine command_leaves hc hp ?_
    rw [frameEnds_notice (s := begin s) hs ⟨n, hf⟩, kick_reply (s := sendingEnded (begin s)) rfl hr]
    rfl
  case notice =>
    refine command_leaves hc hp ?_
    rw [frameEnds_notice (s := begin s) hs hf, kick_notice (s := sendingEnded (begin s)) rfl hr hh hn]
    rfl
  case idle =>
    refine command_leaves hc hp ?_
    rw [frameEnds_notice (s := begin s) hs hf, kick_nothing (s := sendingEnded (begin s)) rfl hr hn]
    rfl
  case replyNotice =>
    refine command_leaves hc hp ?_
    rw [frameEnds_reply (s := begin s) hs hf, takeNext_empty (hbuffer.trans hb),
      kick_notice (s := replyEnded (begin s)) rfl hr rfl hn]
    rfl
  case replyIdle =>
    refine command_leaves hc hp ?_
    rw [frameEnds_reply (s := begin s) hs hf, takeNext_empty (hbuffer.trans hb),
      kick_nothing (s := replyEnded (begin s)) rfl hr hn]
    rfl
  case taken =>
    rw [hc, command_powered _ s hp, frameEnds_reply (s := begin s) hs hf,
      takeNext_head hhand (hbuffer.trans hb), kick_nothing (s := replyEnded (begin s)) rfl hr hn]
    rfl
  case takenBehind =>
    rw [hc, command_powered _ s hp, frameEnds_reply (s := begin s) hs hf,
      takeNext_head hhand (hbuffer.trans hb), kick_notice (s := replyEnded (begin s)) rfl hr rfl hn]
    rfl

end Sys2Proof.Proofs
end

section
/-! PROOF. The step and the queue of the waiting commands (log 1): the command at its front is the one taken. -/

namespace Sys2Proof.Proofs

open Sys2Proof.Machine

/-- Settles O1: the front command is there, so `step` is in its branch for a queue that is not empty. -/
theorem stepTakesTheFrontCommand : Obligations.StepTakesTheFrontCommand := by
  intro c rest s hpending
  unfold step
  rw [hpending]

end Sys2Proof.Proofs
end
